-- ==== Sys2Proof/Word.lean ====
section
/-! DEFINITION. The word types of the ML32 model and their plainest arithmetic. -/

namespace Sys2Proof

/-- One byte: a register of the window, a character of the line, a byte of a payload. -/
abbrev Byte := BitVec 8

/-- Two bytes: the 16-bit registers of R186, the CRC of R7, the event detail of R171. -/
abbrev Word := BitVec 16

/-- An index of the station table, 0 to 31 (R22). -/
abbrev EntryIx := Fin 32

/-- A buffer number of the pool, 0 to 23 (R95). -/
abbrev BufIx := Fin 24

/-- A slot of the poll ring, 0 to 63 (R74). -/
abbrev SlotIx := Fin 64

/-- The low byte of a word. -/
def lowByte (w : Word) : Byte := w.setWidth 8

/-- The high byte of a word. -/
def highByte (w : Word) : Byte := (w >>> 8).setWidth 8

/-- A byte as the low half of a word, the high half zero. -/
def byteWord (b : Byte) : Word := b.setWidth 16

/-- A high and a low byte as one word. -/
def wordOf (hi lo : Byte) : Word := hi ++ lo

end Sys2Proof
end

