-- ==== Sys2Proof/Syntax.lean ====
section
/-! DEFINITION. The steps of the ML32: one constructor for each row of spec/opcode_table.json, with what its sender supplies. -/

namespace Sys2Proof

/-- The five 16-bit registers of R186. -/
inductive WideReg where
  | windata | evdetail | passcnt | noisecnt | straycnt
deriving DecidableEq, Repr

/-- The seven line configuration registers of R166, in the order of the register map (0x31 to 0x37). -/
inductive LineReg where
  | lrate | lguard | lreply | lgap | lsettle | lopt | contlim
deriving DecidableEq, Repr

/-- The commands of the block. Host commands carry no operand: they are writes of CMD, and their arguments are CARG0 to
CARG3 as they stand (R189). A write carries the whole data path D15-D0; what of it counts is R185's matter. A line-side
step carries what RXD showed: a sampled level is true for high. `wait` is the time since the model's clock. -/
inductive Instr where
  /-- RESET# rises; BUSW is sampled (R197, R185). -/
  | pinReset (busw : Bool)
  /-- CMD 0x10 (R35). -/
  | add
  /-- CMD 0x11 (R38, R39). -/
  | remove
  /-- CMD 0x12 (R42). -/
  | park
  /-- CMD 0x13 (R43). -/
  | resume
  /-- CMD 0x14 (R91). -/
  | urgent
  /-- CMD 0x15 (R44). -/
  | clearCounters
  /-- CMD 0x20 (R98). -/
  | stageOpen
  /-- CMD 0x21 (R100). -/
  | stageCommit
  /-- CMD 0x22 (R102). -/
  | stageDiscard
  /-- CMD 0x23 (R113). -/
  | cancel
  /-- CMD 0x30 (R131). -/
  | rxOpen
  /-- CMD 0x31 (R134). -/
  | rxRelease
  /-- CMD 0x40 (R139). -/
  | sweepStart
  /-- CMD 0x41 (R146). -/
  | sweepStop
  /-- CMD 0x50 (R154). -/
  | lineStart
  /-- CMD 0x51 (R155). -/
  | lineHalt
  /-- CMD 0x52 (R157); the level of RXD at that moment decides the receiver's state if the abort ends ECHO (R13). -/
  | lineAbort (rxdHigh : Bool)
  /-- CMD 0x53 (R168). -/
  | lineReset
  /-- CMD 0x5F (R198). -/
  | deviceReset
  /-- A write of CMD with a code that the command table does not list (R190). -/
  | unknownCommand (code : Byte)
  /-- A write of STGDATA (R99). -/
  | stgdataWrite (data : Word)
  /-- A read of RXDATA (R133). -/
  | rxdataRead
  /-- A read of EVPOP (R177). -/
  | evpopRead
  /-- A read of the lower address of WINDATA (R193). -/
  | windataRead
  /-- A write of the lower address of WINDATA (R194). -/
  | windataWrite (data : Word)
  /-- A read of the lower or the upper address of a 16-bit register (R186). -/
  | wideRegisterRead (reg : WideReg) (upper : Bool)
  /-- A write of HERR (R182). -/
  | herrWrite (data : Word)
  /-- A write of INTSET (R180). -/
  | intsetWrite (data : Word)
  /-- A write of INTCLR (R180). -/
  | intclrWrite (data : Word)
  /-- A write of a line configuration register (R165, R166). -/
  | lineConfigWrite (reg : LineReg) (data : Word)
  /-- A write of RINGLEN (R80). -/
  | ringlenWrite (data : Word)
  /-- A write of INQTHR (R135). -/
  | inqthrWrite (data : Word)
  /-- A write of EVFILTER (R173). -/
  | evfilterWrite (data : Word)
  /-- A write of any other byte address (R188). -/
  | registerWrite (addr : BitVec 6) (data : Word)
  /-- An access with RD# and WR# both low (R184). -/
  | droppedAccess
  /-- The mid-bit sample of the start bit in assembly (R2, R19); `rxdHigh` is a false start. -/
  | startEdgeCheck (rxdHigh : Bool)
  /-- A character completed in WATCH: its data and its sampled stop bit (R19). -/
  | strayCharacter (data : Byte) (stop : Bool)
  /-- A character completed in HUNT (R15). -/
  | huntCharacter (data : Byte) (stop : Bool)
  /-- A character completed in COLLECT (R16). -/
  | collectCharacter (data : Byte) (stop : Bool)
  /-- A character completed in DISCARD (R18). -/
  | discardCharacter (data : Byte) (stop : Bool)
  /-- One more character time of RXD low after a framing error (R2). -/
  | breakCharacter
  /-- The stop-bit sample of a transmitted character: the three things compared (R13). `engineFirst` says, where the
  contention faults the line, whether the framer's report reaches the engine before the fault (R164). -/
  | echoComparison (start : Bool) (data : Byte) (stop : Bool) (engineFirst : Bool)
  /-- The end of the stop bit of a contended character, with the level of RXD there (R14, R13). -/
  | contentionStop (rxdHigh : Bool)
  /-- The end of the last stop bit of a frame, with the level of RXD there (R11, R13). -/
  | frameSent (rxdHigh : Bool)
  /-- The end of the guard (R12). -/
  | lineRelease
  /-- The gap check expires (R17). -/
  | gapExpiry
  /-- The take limit (R54). -/
  | takeLimit
  /-- The drain limit (R58). -/
  | drainLimit
  /-- The quiet deadline falls (R159). -/
  | quietDeadline
  /-- The babble deadline falls (R161). -/
  | babbleDeadline
  /-- The pace timer expires (R82). -/
  | paceExpiry
  /-- RESET# goes low (R197). -/
  | resetAsserted
  /-- A falling edge on RXD (R2). -/
  | startEdge (wait : Nat)
  /-- RXD has been high for one full bit time after a character with a framing error (R2). -/
  | receiverRearm (wait : Nat)
deriving DecidableEq, Repr

end Sys2Proof
end

