-- ==== Sys2Proof/Config.lean ====
section
/-! DEFINITION. The constants of the part, and what the model fixes of it (the units of its clock, the strap at reset). -/

namespace Sys2Proof.Config

/-- The LEAD byte of every frame (R4). -/
def lead : Byte := 0xB4#8

/-- The longest payload of a frame and of a buffer, in bytes (R4, R95). -/
def maxPayload : Nat := 48

/-- The number of records the event queue can hold (R169). -/
def eventCapacity : Nat := 32

/-- The number of entries the urgent list can hold (R74). -/
def urgentCapacity : Nat := 8

/-- The number of messages the broadcast list can hold (R111). -/
def broadcastCapacity : Nat := 4

/-- The divisor of the reference clock for each LRATE code (R3); codes above 7 cannot be in force. -/
def divisor (lrate : Nat) : Nat :=
  match lrate with
  | 0 => 96
  | 1 => 48
  | 2 => 24
  | 3 => 16
  | 4 => 8
  | 5 => 4
  | 6 => 2
  | _ => 1

/-- Half a bit time in units of the model's clock. DESIGN CHOICE (log 1): the clock counts fifths of a period of the
14.7456 MHz reference clock, in which a bit time is 80 divisors (R3) and a millisecond is a whole number. -/
def halfBit (lrate : Nat) : Nat := 40 * divisor lrate

/-- A bit time (R1, R3). -/
def bitTime (lrate : Nat) : Nat := 2 * halfBit lrate

/-- A character time: 10 bit times (R1). -/
def charTime (lrate : Nat) : Nat := 20 * halfBit lrate

/-- From a character's start edge to its stop-bit sample: 9.5 bit times (R2, R54). -/
def charSample (lrate : Nat) : Nat := 19 * halfBit lrate

/-- A millisecond, the unit of PACE (R74, R82): 14745.6 reference periods, 73728 units of the clock. -/
def millisecond : Nat := 73728

/-- The babble deadline and the drain limit, in character times (R58, R159). -/
def limitChars : Nat := 64

/-- How many moves the ring walk may make within one look (R87: it ends within RECOVER passes at most; DEDUCED, log 12). -/
def walkFuel : Nat := 4096

/-- The bus width of State.reset: BUSW sampled low, 8 bits (R185). DESIGN CHOICE (log 2): the manual does not say how the
strap is tied. -/
def resetBusWide : Bool := false

end Sys2Proof.Config
end

