-- ==== Sys2Proof/Machine/State.lean ====
section
/-! DEFINITION. The state of the ML32, block by block, its reset value, and the reasons a step can stop. -/

namespace Sys2Proof.Machine

/-- Why a step stops with a fault. There is no such reason: nothing in the manual stops the part, so the type has no
constructor (DEDUCED, log 3). -/
inductive Fault where
deriving DecidableEq, Repr

/-- Why the model gives no answer. -/
inductive Refusal where
  /-- Raised by exec alone, for a row of the table that has no meaning yet. Safe: the model then says nothing. -/
  | notModelled (mnemonic : String)
deriving DecidableEq, Repr

/-! ## The station table (chapter 2) -/

/-- The seven states of an entry (R22, coded by R23). -/
inductive EntryState where
  | empty | new | online | suspect | lost | parked | retiring
deriving DecidableEq, Repr

/-- An entry's identity, once an IDENT has been applied (R25). -/
structure Ident where
  stationType : Byte
  serial : Word
deriving DecidableEq, Repr

/-- One entry record (R22). The defaults are the EMPTY values. The outbound list length is read from the pool's list. -/
structure Entry where
  address : Nat := 0
  state : EntryState := .empty
  holdOnLoss : Bool := false
  urgentOnMore : Bool := false
  ident : Option Ident := none
  miss : Nat := 0
  nextNum : BitVec 3 := 0#3
  fresh : Bool := false
  lastTaken : Option (BitVec 3) := none
  backoff : Nat := 0
  inFlight : Bool := false
  urgentListed : Bool := false
  goodCount : Nat := 0
  failCount : Nat := 0
  dupCount : Nat := 0
deriving DecidableEq, Repr

/-- The record of an EMPTY entry (R22). -/
def Entry.vacant : Entry := {}

/-! ## The buffer pool (chapters 5 and 6) -/

/-- The outbound mark of a buffer (R95). -/
inductive Mark where
  | queued | inFlight | cancelPending
deriving DecidableEq, Repr

/-- One buffer record (R95). Its length is the length of `payload`; its holder is the list or slot of the pool that names
it, and FREE where none does (R96). -/
structure Buffer where
  payload : List Byte := []
  msgId : Byte := 0#8
  mark : Mark := .queued
  transmitted : Bool := false
  busyCount : Nat := 0
  srcEntry : EntryIx := 0
  srcAddr : Nat := 0
  reportNum : BitVec 3 := 0#3
  packed : Bool := false
deriving DecidableEq, Repr

/-- The pool: the 24 buffers and who holds which (R95, R96), and the broadcast number (R112). Lists are oldest first. -/
structure Pool where
  buffers : Vector Buffer 24
  outbound : Vector (List BufIx) 32
  broadcast : List BufIx := []
  staged : Option BufIx := none
  inbound : List BufIx := []
  readPort : Option BufIx := none
  reserved : Option BufIx := none
  broadcastNum : BitVec 3 := 0#3
deriving DecidableEq, Repr

/-- The pool with every buffer free (R117). -/
def Pool.allFree : Pool where
  buffers := Vector.replicate 24 {}
  outbound := Vector.replicate 32 []

/-! ## Protocol parameters (R196) -/

/-- The protocol parameters of R196 other than EVFILTER. The defaults are the power-on values. -/
structure Params where
  retries : Nat := 2
  lostLim : Nat := 3
  recover : Nat := 4
  busyLim : Nat := 8
  backoff : Nat := 2
  maxq : Nat := 4
  reserve : Nat := 2
  pace : Nat := 0
  ringLen : Nat := 64
  inqThr : Nat := 1
deriving DecidableEq, Repr

/-! ## The poll scheduler (chapter 4) -/

/-- Whether the ring walk may run at the next look (R74). -/
inductive WalkState where
  | walking | paceWait | bufferWait | dormant
deriving DecidableEq, Repr

/-- The fruitless run: its count, deferral mark and live mark (R74, R87). -/
structure Run where
  count : Nat := 0
  deferral : Bool := false
  live : Bool := false
deriving DecidableEq, Repr

/-- The scheduler's state (R74). A running pace timer is held as the clock value at which it expires. `urgentDeferred` is
the urgent head whose POLL was deferred at the last look (R75). `lookDue` is the model's own: an arrival of R75 has come
in this step and its look has not been made (DESIGN CHOICE, log 4); it is clear between steps. -/
structure Scheduler where
  ring : Vector (Option EntryIx) 64
  pointer : SlotIx := 0
  passCount : Word := 0#16
  paceTimer : Option Nat := none
  urgent : List EntryIx := []
  credit : Bool := false
  exhausted : Bool := false
  walk : WalkState := .walking
  run : Run := {}
  urgentDeferred : Option EntryIx := none
  lookDue : Bool := false
deriving DecidableEq, Repr

/-! ## The sweep unit (chapter 7) -/

/-- The sweep states (R138). -/
inductive SweepState where
  | idle | active | stopping
deriving DecidableEq, Repr

/-- The sweep record (R138); the defaults are its reset values (R151). -/
structure Sweep where
  state : SweepState := .idle
  cursor : Nat := 0
  last : Nat := 0
  autoAdd : Bool := false
  outstanding : Bool := false
deriving DecidableEq, Repr

/-! ## Line control (chapter 8) -/

/-- The line states (R152). -/
inductive LineState where
  | stopped | running | draining | faulted
deriving DecidableEq, Repr

/-- A pending quiet request with its two deadlines, as clock values (R159). -/
structure Quiet where
  quietAt : Nat
  babbleAt : Nat
deriving DecidableEq, Repr

/-- The line configuration registers (R166); the defaults are the power-on values. -/
structure LineConfig where
  lrate : Nat := 1
  lguard : Nat := 2
  lreply : Nat := 4
  lgap : Nat := 2
  lsettle : Nat := 2
  lopt : Byte := 0x81#8
  contlim : Nat := 3
deriving DecidableEq, Repr

/-- Line control's record (R152) with the two character counters of R20. -/
structure LineControl where
  state : LineState := .stopped
  contCount : Nat := 0
  quiet : Option Quiet := none
  noise : Nat := 0
  stray : Nat := 0
  cfg : LineConfig := {}
deriving DecidableEq, Repr

/-! ## The line framer (chapter 1) -/

/-- The receive modes (R10). -/
inductive RxMode where
  | watch | echo | hunt | collect | discard
deriving DecidableEq, Repr

/-- The receive shifter (R2): looking for a start edge; assembling a character since its start edge, mid-bit check made or
not; or waiting for RXD to stay high for a bit time, the last (break) character counted from `since`. -/
inductive Receiver where
  | idle
  | assembling (edge : Nat) (checked : Bool)
  | low (since : Nat)
deriving DecidableEq, Repr

/-- The transmit shifter and its frame (R11): all its characters from LEAD to the CRC, when DE was asserted, the number of
characters whose echo has been found clean, the echo check setting read at the start (R13), and whether an echo failed. -/
structure Transmission where
  chars : List Byte
  begun : Nat
  compared : Nat := 0
  echoCheck : Bool
  contended : Bool := false
deriving DecidableEq, Repr

/-- The line framer (section 1.4). `guardEnd` is the end of a guard in progress, `gap` the expiry of a running gap timer;
the header and the number of characters taken belong to the frame being collected. -/
structure Framer where
  mode : RxMode := .watch
  driverEnable : Bool := false
  tx : Option Transmission := none
  guardEnd : Option Nat := none
  crcGen : Word := 0xFFFF#16
  crcCheck : Word := 0xFFFF#16
  rx : Receiver := .idle
  hdrAddress : Byte := 0#8
  hdrKindTag : Byte := 0#8
  hdrLength : Byte := 0#8
  taken : Nat := 0
  crcHigh : Byte := 0#8
  gap : Option Nat := none
deriving DecidableEq, Repr

/-! ## The exchange engine (chapter 3) -/

/-- The engine states (R50). -/
inductive EngineState where
  | idle | settleWait | sending | guard | await | receiving | drain | settle
deriving DecidableEq, Repr

/-- The failure reasons (R172). -/
inductive Reason where
  | noReply | framing | truncated | overlength | badPacking | crcError | foreignAddress | unexpectedKind | tagMismatch
  | contention
deriving DecidableEq, Repr

/-- An exchange's kind with the target and the buffer that its kind has (R47, R48). -/
inductive Exchange where
  | poll (target : EntryIx) (reply : BufIx)
  | deliver (target : EntryIx) (message : BufIx)
  | probe (address : Nat)
  | broadcast (message : BufIx)
deriving DecidableEq, Repr

/-- The in-flight record (R48), with the frame built at the first transmission (R52), the IDENT bytes kept with the attempt
(R56), and whether the head was marked CANCEL_PENDING after its target had become RETIRING (R40, log 7). -/
structure InFlight where
  exch : Exchange
  tag : Option (BitVec 4) := none
  attempt : Nat := 1
  lastFailure : Option Reason := none
  frame : List Byte := []
  identBytes : List Byte := []
  lateCancel : Bool := false
deriving DecidableEq, Repr

/-- A framer report on the reply (R15 to R18). -/
inductive Report where
  | leadTaken (edge : Nat)
  | header
  | payloadByte (data : Byte)
  | overlength
  | framing
  | truncated
  | complete (crcGood : Bool)
  | quietAfterDiscard
deriving DecidableEq, Repr

/-- The exchange engine: its state, record and timers, and the reports kept while in GUARD (R53). -/
structure Engine where
  state : EngineState := .idle
  record : Option InFlight := none
  windowEnd : Option Nat := none
  takeLimit : Option Nat := none
  drainLimit : Option Nat := none
  kept : List Report := []
deriving DecidableEq, Repr

/-! ## The event queue (chapter 9) -/

/-- The event codes (R171); NONE appears in the view only. -/
inductive EventCode where
  | delivered | deliveryFailed | cancelled | broadcastSent
  | stationOnline | stationLost | stationFound | stationRetired
  | sweepFound | sweepAdded | sweepNoRoom | sweepConflict | sweepDone
  | poolExhausted | lineStopped | lineFault | exchangeAborted
  | eventsLost | resetDone
deriving DecidableEq, Repr

/-- One event record (R170, R171): the defaults are the fields' "none" values. -/
structure Event where
  code : EventCode
  entry : Option EntryIx := none
  address : Nat := 0
  id : Byte := 0#8
  detail : Word := 0#16
deriving DecidableEq, Repr

/-- The event queue, its lost count and filter (R169), and the event view (R178; none for its empty values). -/
structure EventQueue where
  records : List Event := []
  lost : Nat := 0
  filter : Byte := 0x0F#8
  view : Option Event := none
deriving DecidableEq, Repr

/-! ## The host port (chapter 10) -/

/-- The host-error codes (R181). -/
inductive HostError where
  | overfill | overread | readOnly | badValue | badIndex | configLocked | unknownCommand | noStage
deriving DecidableEq, Repr

/-- The result codes of CRES (R190). -/
inductive Res where
  | ok | pending | tooLate | tableFull | duplicateAddress | badAddress | badEntry | badArgument | wrongState | noBuffer
  | nothingStaged | noStation | stationLost | stationQueueFull | broadcastFull | listFull | notFound | queueEmpty
  | nothingOpen | unknownCommand
deriving DecidableEq, Repr

/-- The host-error latch (R181): flag, first code (none reads 0) and count. -/
structure Latch where
  flag : Bool := false
  first : Option HostError := none
  count : Nat := 0
deriving DecidableEq, Repr

/-- The host port's state (section 10 and R199), the host-error latch and the enable mask (R180, R183), the level of RESET#
(R197), and what the part drove on the data lines in the last access (R184; none: it did not drive them). -/
structure Port where
  wide : Bool
  cmd : Byte := 0#8
  carg0 : Byte := 0#8
  carg1 : Byte := 0#8
  carg2 : Byte := 0#8
  carg3 : Byte := 0#8
  cres : Res := .ok
  cval : Byte := 0#8
  winsel : Byte := 0#8
  winidx : Byte := 0#8
  winfld : Byte := 0#8
  stagePtr : Nat := 0
  readPtr : Nat := 0
  hold : Option (WideReg × Byte) := none
  latch : Latch := {}
  mask : BitVec 3 := 0#3
  inReset : Bool := false
  dataLines : Option Word := none
deriving DecidableEq, Repr

/-! ## The machine -/

/-- The whole machine: its ten blocks, the model's clock (log 1), and the queue of waiting commands, oldest first. -/
structure State where
  table : Vector Entry 32
  pool : Pool
  params : Params
  sched : Scheduler
  sweep : Sweep
  line : LineControl
  framer : Framer
  engine : Engine
  events : EventQueue
  port : Port
  now : Nat
  pending : List Instr
deriving DecidableEq, Repr

/-- The scheduler at its pin-reset values (R94). -/
def Scheduler.powerOn : Scheduler where
  ring := Vector.replicate 64 none

/-- The machine at pin reset with the given bus width (R197): every block at its power-on values. The clock starts at 0. -/
def State.powerOn (wide : Bool) : State where
  table := Vector.replicate 32 Entry.vacant
  pool := Pool.allFree
  params := {}
  sched := Scheduler.powerOn
  sweep := {}
  line := {}
  framer := {}
  engine := {}
  events := {}
  port := { wide := wide }
  now := 0
  pending := []

/-- The machine right after reset: RESET# has risen with BUSW at the level Config names (log 2), and no command waits. -/
def State.reset : State := State.powerOn Config.resetBusWide

end Sys2Proof.Machine
end

