-- ==== Sys2Proof/Machine/Flags.lean ====
section
/-! DEFINITION. The conditions and codes the part computes from its state: the levels, the interrupt line, STATUS, the
register codes of the enumerations, and saturating counts. -/

namespace Sys2Proof.Machine

/-- A count that stops at its maximum (Conventions, R26, R181): one more, but never above `max`. -/
def satInc (max n : Nat) : Nat := if n < max then n + 1 else max

/-- The code of an entry state (R23). -/
def EntryState.code : EntryState → Nat
  | .empty => 0
  | .new => 1
  | .online => 2
  | .suspect => 3
  | .lost => 4
  | .parked => 5
  | .retiring => 6

/-- The code of a line state (R152). -/
def LineState.code : LineState → Nat
  | .stopped => 0
  | .running => 1
  | .draining => 2
  | .faulted => 3

/-- The code of a sweep state (R138). -/
def SweepState.code : SweepState → Nat
  | .idle => 0
  | .active => 1
  | .stopping => 2

/-- The code of a failure reason (R172). -/
def Reason.code : Reason → Nat
  | .noReply => 1
  | .framing => 2
  | .truncated => 3
  | .overlength => 4
  | .badPacking => 5
  | .crcError => 6
  | .foreignAddress => 7
  | .unexpectedKind => 8
  | .tagMismatch => 9
  | .contention => 10

/-- The code of a host error (R181). -/
def HostError.code : HostError → Nat
  | .overfill => 1
  | .overread => 2
  | .readOnly => 3
  | .badValue => 4
  | .badIndex => 5
  | .configLocked => 6
  | .unknownCommand => 7
  | .noStage => 8

/-- The code of a command result (R190). -/
def Res.code : Res → Nat
  | .ok => 0
  | .pending => 1
  | .tooLate => 2
  | .tableFull => 3
  | .duplicateAddress => 4
  | .badAddress => 5
  | .badEntry => 6
  | .badArgument => 7
  | .wrongState => 8
  | .noBuffer => 9
  | .nothingStaged => 10
  | .noStation => 11
  | .stationLost => 12
  | .stationQueueFull => 13
  | .broadcastFull => 14
  | .listFull => 15
  | .notFound => 16
  | .queueEmpty => 17
  | .nothingOpen => 18
  | .unknownCommand => 19

/-- A result that refuses the command (R190): any but OK, PENDING and TOO_LATE. -/
def Res.refuses : Res → Bool
  | .ok => false
  | .pending => false
  | .tooLate => false
  | _ => true

/-- The code of an event (R171). -/
def EventCode.code : EventCode → Byte
  | .delivered => 0x11#8
  | .deliveryFailed => 0x12#8
  | .cancelled => 0x13#8
  | .broadcastSent => 0x14#8
  | .stationOnline => 0x21#8
  | .stationLost => 0x22#8
  | .stationFound => 0x23#8
  | .stationRetired => 0x24#8
  | .sweepFound => 0x31#8
  | .sweepAdded => 0x32#8
  | .sweepNoRoom => 0x33#8
  | .sweepConflict => 0x34#8
  | .sweepDone => 0x35#8
  | .poolExhausted => 0x41#8
  | .lineStopped => 0x42#8
  | .lineFault => 0x43#8
  | .exchangeAborted => 0x44#8
  | .eventsLost => 0xF1#8
  | .resetDone => 0xF2#8

/-- The EVFILTER bit of an event's class, or none for the two unfiltered codes (R171, R173). -/
def EventCode.classBit : EventCode → Option Nat
  | .delivered => some 0
  | .deliveryFailed => some 0
  | .cancelled => some 0
  | .broadcastSent => some 0
  | .stationOnline => some 1
  | .stationLost => some 1
  | .stationFound => some 1
  | .stationRetired => some 1
  | .sweepFound => some 2
  | .sweepAdded => some 2
  | .sweepNoRoom => some 2
  | .sweepConflict => some 2
  | .sweepDone => some 2
  | .poolExhausted => some 3
  | .lineStopped => some 3
  | .lineFault => some 3
  | .exchangeAborted => some 3
  | .eventsLost => none
  | .resetDone => none

/-- Whether the class filter admits an event code (R173). -/
def admits (filter : Byte) (c : EventCode) : Bool :=
  match c.classBit with
  | none => true
  | some k => filter.getLsbD k

/-- A Bool as a register bit. -/
def bit (b : Bool) : Nat := if b then 1 else 0

/-- The event-pending level (R176). -/
def eventPending (s : State) : Bool := !s.events.records.isEmpty

/-- The inbound-ready level (R135): INQCOUNT at or above INQTHR. -/
def inboundReady (s : State) : Bool := decide (s.params.inqThr ≤ s.pool.inbound.length)

/-- The interrupt line is asserted, driven low, while an enabled source holds (R179), and released in reset (R197). -/
def irqAsserted (s : State) : Bool :=
  !s.port.inReset &&
    ((s.port.mask.getLsbD 0 && eventPending s) || (s.port.mask.getLsbD 1 && inboundReady s) ||
      (s.port.mask.getLsbD 2 && s.port.latch.flag))

/-- STATUS (R195). -/
def statusByte (s : State) : Byte :=
  BitVec.ofNat 8 (s.line.state.code + 4 * s.sweep.state.code + 16 * bit (eventPending s) + 32 * bit (inboundReady s) +
    64 * bit s.port.latch.flag + 128 * bit s.sched.exhausted)

/-- HERR: the flag in bit 7, the first code in bits 3 to 0 (R181). -/
def herrByte (l : Latch) : Byte :=
  BitVec.ofNat 8 (128 * bit l.flag + (l.first.map HostError.code).getD 0)

end Sys2Proof.Machine
end

