-- ==== Sys2Proof/Machine/Operands.lean ====
section
/-! DEFINITION. The forms in which values reach the part: the CRC and frames of the line, the header and packed payload of a
reply, the bytes of the data path, command arguments and the register window's selections. -/

namespace Sys2Proof.Machine

/-! ## The CRC (R7) -/

/-- One bit of the CRC register's shift with the polynomial x^16 + x^12 + x^5 + 1 (R7). -/
def crcShift (c : Word) : Word := if c.msb then (c <<< 1) ^^^ 0x1021#16 else c <<< 1

/-- One byte through the CRC, most significant bit first (R7). -/
def crcByte (c : Word) (b : Byte) : Word :=
  crcShift (crcShift (crcShift (crcShift (crcShift (crcShift (crcShift (crcShift (c ^^^ (byteWord b <<< 8)))))))))

/-- The CRC register's starting value, which clearing it gives it (R7). -/
def crcStart : Word := 0xFFFF#16

/-- The CRC of a sequence of bytes (R7). -/
def crcOf (bs : List Byte) : Word := bs.foldl crcByte crcStart

/-! ## Frames (R4, R5, R6) -/

/-- A kind code and a tag as the KIND/TAG byte (R4). -/
def kindTag (kind : Nat) (tag : BitVec 4) : Byte := BitVec.ofNat 8 (16 * kind + tag.toNat)

/-- The kind code of a KIND/TAG byte. -/
def kindOf (b : Byte) : Nat := b.toNat / 16

/-- The tag of a KIND/TAG byte. -/
def tagOf (b : Byte) : BitVec 4 := b.setWidth 4

/-- Bits 2 to 0 of a tag: a report, delivery or broadcast number (R5). -/
def numOf (t : BitVec 4) : BitVec 3 := t.setWidth 3

/-- The bytes of a master frame that the CRC covers: ADDRESS with direction 0, KIND/TAG, LENGTH and payload (R4, R7). -/
def coveredBytes (address kind : Nat) (tag : BitVec 4) (payload : List Byte) : List Byte :=
  BitVec.ofNat 8 address :: kindTag kind tag :: BitVec.ofNat 8 payload.length :: payload

/-- All characters of a master frame in the order they are sent, the CRC high byte first (R4, R11). -/
def frameChars (address kind : Nat) (tag : BitVec 4) (payload : List Byte) : List Byte :=
  let covered := coveredBytes address kind tag payload
  Config.lead :: covered ++ [highByte (crcOf covered), lowByte (crcOf covered)]

/-- The tag of a POLL: the acknowledgement of the last-taken report number, or 0 (R6, R128). -/
def pollTag (lastTaken : Option (BitVec 3)) : BitVec 4 :=
  match lastTaken with
  | none => 0#4
  | some n => 1#1 ++ n

/-- The tag of a DELIVER: the fresh mark and the next delivery number (R6). -/
def deliverTag (fresh : Bool) (num : BitVec 3) : BitVec 4 := (if fresh then 1#1 else 0#1) ++ num

/-- The tag of a BROADCAST: bit 3 clear and the broadcast number (R6). -/
def broadcastTag (num : BitVec 3) : BitVec 4 := 0#1 ++ num

/-! ## Replies (R5, R8, R55) -/

/-- The station kinds (R5). -/
inductive ReplyKind where
  | report | packedReport | quiet | accept | busy | refuse | ident
deriving DecidableEq, Repr

/-- The station kind of a kind code, if it is one (R5). -/
def replyKind (code : Nat) : Option ReplyKind :=
  match code with
  | 8 => some .report
  | 9 => some .packedReport
  | 10 => some .quiet
  | 11 => some .accept
  | 12 => some .busy
  | 13 => some .refuse
  | 14 => some .ident
  | _ => none

/-- The good replies of each exchange kind (R47). -/
def answers (x : Exchange) (k : ReplyKind) : Bool :=
  match x, k with
  | .poll _ _, .report => true
  | .poll _ _, .packedReport => true
  | .poll _ _, .quiet => true
  | .deliver _ _, .accept => true
  | .deliver _ _, .busy => true
  | .deliver _ _, .refuse => true
  | .probe _, .ident => true
  | _, _ => false

/-- The lengths each station kind allows (R55, check 4). -/
def lengthAllowed (k : ReplyKind) (len : Nat) : Bool :=
  match k with
  | .report => decide (len ≤ Config.maxPayload)
  | .packedReport => decide (len ≤ Config.maxPayload)
  | .ident => len == 3
  | _ => len == 0

/-- The expansion of a packed payload: each pair's value, count + 1 times (R8). -/
def expand : List Byte → List Byte
  | v :: c :: rest => List.replicate (c.toNat + 1) v ++ expand rest
  | _ => []

/-- The expanded length computed from the count bytes (R57, check 4). -/
def expandedLength : List Byte → Nat
  | _ :: c :: rest => c.toNat + 1 + expandedLength rest
  | _ => 0

/-! ## Arguments and the register window -/

/-- A byte argument as an entry index, if it is 0 to 31. -/
def entryArg (b : Byte) : Option EntryIx := if h : b.toNat < 32 then some ⟨b.toNat, h⟩ else none

/-- A byte as a ring slot index, if it is 0 to 63. -/
def slotArg (b : Byte) : Option SlotIx := if h : b.toNat < 64 then some ⟨b.toNat, h⟩ else none

/-- An entry index as a register byte, 0xFF for none (Conventions, R171). -/
def entryByte (e : Option EntryIx) : Byte :=
  match e with
  | none => 0xFF#8
  | some i => BitVec.ofNat 8 i.val

/-- The value a write of WINDATA carries: the whole data path in 16-bit mode, 0x00nn in 8-bit mode (R186). -/
def windataValue (wide : Bool) (data : Word) : Word := if wide then data else byteWord (lowByte data)

/-- The fields of an entry the window can select (R192). -/
inductive EntryField where
  | state | address | holdOnLoss | urgentOnMore | identPresent | stationType | serial | miss | nextNum | fresh | lastTaken
  | backoff | outboundLength | inFlight | urgentListed | goodCount | failCount | dupCount
deriving DecidableEq, Repr

/-- The field a WINFLD value selects (R192). -/
def entryField (b : Byte) : Option EntryField :=
  match b.toNat with
  | 0 => some .state
  | 1 => some .address
  | 2 => some .holdOnLoss
  | 3 => some .urgentOnMore
  | 4 => some .identPresent
  | 5 => some .stationType
  | 6 => some .serial
  | 7 => some .miss
  | 8 => some .nextNum
  | 9 => some .fresh
  | 10 => some .lastTaken
  | 11 => some .backoff
  | 12 => some .outboundLength
  | 13 => some .inFlight
  | 14 => some .urgentListed
  | 15 => some .goodCount
  | 16 => some .failCount
  | 17 => some .dupCount
  | _ => none

/-- What the window's selectors reach: an entry's field, a ring slot, or nothing (R191 to R193). -/
inductive Selection where
  | field (i : EntryIx) (f : EntryField)
  | slot (k : SlotIx)
  | outOfRange
deriving DecidableEq, Repr

/-- The current selection of the window (R193). -/
def selection (p : Port) : Selection :=
  if p.winsel = 0#8 then
    match entryArg p.winidx, entryField p.winfld with
    | some i, some f => .field i f
    | _, _ => .outOfRange
  else
    match slotArg p.winidx with
    | some k => .slot k
    | none => .outOfRange

/-- A field of an entry as the window reads it, given the length of its outbound list (R23, R192). -/
def fieldValue (e : Entry) (outLen : Nat) : EntryField → Word
  | .state => BitVec.ofNat 16 e.state.code
  | .address => BitVec.ofNat 16 e.address
  | .holdOnLoss => BitVec.ofNat 16 (bit e.holdOnLoss)
  | .urgentOnMore => BitVec.ofNat 16 (bit e.urgentOnMore)
  | .identPresent => BitVec.ofNat 16 (bit e.ident.isSome)
  | .stationType => (e.ident.map fun d => byteWord d.stationType).getD 0#16
  | .serial => (e.ident.map fun d => d.serial).getD 0#16
  | .miss => BitVec.ofNat 16 e.miss
  | .nextNum => e.nextNum.setWidth 16
  | .fresh => BitVec.ofNat 16 (bit e.fresh)
  | .lastTaken => (e.lastTaken.map fun n => n.setWidth 16).getD 0xFF#16
  | .backoff => BitVec.ofNat 16 e.backoff
  | .outboundLength => BitVec.ofNat 16 outLen
  | .inFlight => BitVec.ofNat 16 (bit e.inFlight)
  | .urgentListed => BitVec.ofNat 16 (bit e.urgentListed)
  | .goodCount => BitVec.ofNat 16 e.goodCount
  | .failCount => BitVec.ofNat 16 e.failCount
  | .dupCount => BitVec.ofNat 16 e.dupCount

/-- The broadcast repeat count of LOPT: bits 1-0 plus one (R166). -/
def repeatCount (lopt : Byte) : Nat := lopt.toNat % 4 + 1

/-- The echo check of LOPT: bit 7 (R166). -/
def echoCheckOn (lopt : Byte) : Bool := lopt.getLsbD 7

/-- The range of a line configuration register (R166). -/
def lineRegInRange (r : LineReg) (v : Byte) : Bool :=
  match r with
  | .lrate => decide (v.toNat ≤ 7)
  | .lguard => decide (v.toNat ≤ 31)
  | .lreply => decide (1 ≤ v.toNat ∧ v.toNat ≤ 63)
  | .lgap => decide (1 ≤ v.toNat ∧ v.toNat ≤ 7)
  | .lsettle => decide (1 ≤ v.toNat ∧ v.toNat ≤ 15)
  | .lopt => decide (v &&& 0x7C#8 = 0#8)
  | .contlim => decide (1 ≤ v.toNat ∧ v.toNat ≤ 7)

end Sys2Proof.Machine
end

