-- ==== Sys2Proof/Machine/Ops.lean ====
section
/-! DEFINITION. The named operations over the state that every block shares: entries, buffers and their holders, postings,
host errors, the scheduler's wake, and the passing of time. -/

namespace Sys2Proof.Machine

/-! ## Entries -/

/-- The state with one entry record replaced. -/
def withEntry (i : EntryIx) (e : Entry) (s : State) : State := { s with table := s.table.set i e }

/-- The state with one entry record changed. -/
def modEntry (i : EntryIx) (f : Entry → Entry) (s : State) : State := withEntry i (f s.table[i]) s

/-- The lowest-numbered EMPTY entry (R35). -/
def lowestEmpty (s : State) : Option EntryIx := (List.finRange 32).find? fun i => s.table[i].state == .empty

/-- The occupied entry that holds an address, if one does (R22, R35). -/
def holderOf (a : Nat) (s : State) : Option EntryIx :=
  (List.finRange 32).find? fun i => s.table[i].state != .empty && s.table[i].address == a

/-! ## Buffers -/

/-- The state with one buffer record changed. -/
def modBuffer (b : BufIx) (f : Buffer → Buffer) (s : State) : State :=
  { s with pool := { s.pool with buffers := s.pool.buffers.set b (f s.pool.buffers[b]) } }

/-- The state with one entry's outbound list replaced. -/
def withOutbound (i : EntryIx) (bs : List BufIx) (s : State) : State :=
  { s with pool := { s.pool with outbound := s.pool.outbound.set i bs } }

/-- Every buffer that has a holder other than the free list, once for each place that names it (R96). -/
def Pool.held (p : Pool) : List BufIx :=
  p.staged.toList ++ p.reserved.toList ++ p.readPort.toList ++ p.inbound ++ p.broadcast ++ p.outbound.toList.flatten

/-- Whether a buffer is on the free list: no holder names it (R96). -/
def Pool.isFree (p : Pool) (b : BufIx) : Bool := !p.held.contains b

/-- The lowest-numbered free buffer (R97). -/
def Pool.lowestFree (p : Pool) : Option BufIx := (List.finRange 24).find? fun b => p.isFree b

/-- FREECOUNT: the number of free buffers (R96). -/
def Pool.freeCount (p : Pool) : Nat := ((List.finRange 24).filter fun b => p.isFree b).length

/-! ## Postings (R174) -/

/-- One posting: declined by the filter, placed at the tail, or dropped with the lost count raised (R174). -/
def post (e : Event) (s : State) : State :=
  if admits s.events.filter e.code then
    if s.events.records.length < Config.eventCapacity then
      { s with events := { s.events with records := s.events.records ++ [e] } }
    else { s with events := { s.events with lost := satInc 255 s.events.lost } }
  else s

/-- A posting that names an entry and carries its address as it stands (R170). -/
def postEntry (c : EventCode) (i : EntryIx) (id : Byte) (detail : Nat) (s : State) : State :=
  post { code := c, entry := some i, address := s.table[i].address, id := id, detail := BitVec.ofNat 16 detail } s

/-! ## Host errors (R181) -/

/-- The latch after a host error (R181). -/
def Latch.raise (h : HostError) (l : Latch) : Latch :=
  if l.flag then { l with count := satInc 255 l.count } else { l with flag := true, first := some h }

/-- A host error taken by the latch. -/
def hostError (h : HostError) (s : State) : State := { s with port := { s.port with latch := s.port.latch.raise h } }

/-! ## The scheduler's arrivals (R75, R88, R89) -/

/-- An arrival of R75: the scheduler looks at the end of this step, if the engine is then IDLE and the line RUNNING. -/
def arrival (s : State) : State := { s with sched := { s.sched with lookDue := true } }

/-- A wake (R89): it empties the fruitless run, ends DORMANT and BUFFER_WAIT, and is an arrival. -/
def wake (s : State) : State :=
  arrival { s with sched := { s.sched with
    run := {}
    walk := match s.sched.walk with
      | .dormant => .walking
      | .bufferWait => .walking
      | w => w } }

/-- A buffer has returned to the free list (R97): that ends a BUFFER_WAIT (R88), and it is an arrival there or where the
urgent head's POLL was deferred at the last look (R75). -/
def bufferFreed (s : State) : State :=
  if s.sched.walk = .bufferWait then
    arrival { s with sched := { s.sched with walk := .walking, run := {} } }
  else
    match s.sched.urgentDeferred with
    | some i => if s.sched.urgent.head? = some i then arrival s else s
    | none => s

/-- An entry leaves the urgent list, wherever it stands, and its flag clears (R93). -/
def dropUrgent (i : EntryIx) (s : State) : State :=
  modEntry i (fun e => { e with urgentListed := false })
    { s with sched := { s.sched with urgent := s.sched.urgent.filter (fun j => j != i) } }

/-- An entry joins the tail of the urgent list and its flag is set (R91, R92). -/
def listUrgent (i : EntryIx) (s : State) : State :=
  modEntry i (fun e => { e with urgentListed := true })
    { s with sched := { s.sched with urgent := s.sched.urgent ++ [i] } }

/-! ## Time -/

/-- The clock brought up to a moment, unless it is past it (DESIGN CHOICE, log 1). -/
def advanceTo (t : Nat) (s : State) : State := { s with now := max s.now t }

/-- A character time at the rate in force (R1). -/
def charNow (s : State) : Nat := Config.charTime s.line.cfg.lrate

/-- Half a bit time at the rate in force. -/
def halfNow (s : State) : Nat := Config.halfBit s.line.cfg.lrate

/-- The engine's quiet request: a quiet deadline LSETTLE and a babble deadline 64 character times away (R159). -/
def quietRequest (s : State) : State :=
  { s with line := { s.line with
    quiet := some { quietAt := s.now + s.line.cfg.lsettle * charNow s, babbleAt := s.now + Config.limitChars * charNow s } } }

/-- An activity notice: with a request pending it moves the quiet deadline, and otherwise it is dropped (R160). -/
def activityNotice (s : State) : State :=
  match s.line.quiet with
  | none => s
  | some q =>
    { s with line := { s.line with quiet := some { q with quietAt := s.now + s.line.cfg.lsettle * charNow s } } }

/-! ## The line's outputs -/

/-- The framer stops at once (R21): DE drops without guard, TXD returns high, the mode becomes WATCH, and collection, hunt,
discard and gap timing end. A character in assembly is completed in WATCH. If the stop ends ECHO, the receiver takes up the
state of R13: with RXD low it forms break characters from this moment. -/
def framerStop (rxdHigh : Bool) (s : State) : State :=
  { s with framer := { s.framer with
    mode := .watch
    driverEnable := false
    tx := none
    guardEnd := none
    gap := none
    rx := if s.framer.mode = .echo then (if rxdHigh then .idle else .low s.now) else s.framer.rx } }

/-- The level of TXD at a moment (R1, R11): high but for the low bits of a character in progress, sent least significant
bit first after a lead-in of one bit time; after a contended character nothing more is sent (R14). -/
def txdAt (s : State) (t : Nat) : Bool :=
  match s.framer.tx with
  | none => true
  | some x =>
    let k := (t - x.begun) / Config.bitTime s.line.cfg.lrate
    if k = 0 then true
    else if x.contended && x.compared < (k - 1) / 10 then true
    else
      match x.chars[(k - 1) / 10]? with
      | none => true
      | some c =>
        match (k - 1) % 10 with
        | 0 => false
        | 9 => true
        | m => c.getLsbD (m - 1)

end Sys2Proof.Machine
end

