-- ==== Sys2Proof/Machine/Pool.lean ====
section
/-! DEFINITION. The buffer pool's shared moves: departures from an outbound list, flushes, and the reply reservation. -/

namespace Sys2Proof.Machine

/-- The head of an entry's outbound list (R104). -/
def headOf (i : EntryIx) (s : State) : Option BufIx := s.pool.outbound[i].head?

/-- A message departs from an entry's outbound list, from its own position: if it had been transmitted the next delivery
number advances, modulo 8, and its buffer returns to the free list (R104, R106). -/
def depart (i : EntryIx) (b : BufIx) (s : State) : State :=
  let sent := s.pool.buffers[b].transmitted
  bufferFreed
    (modEntry i (fun e => if sent then { e with nextNum := e.nextNum + 1#3 } else e)
      (withOutbound i (s.pool.outbound[i].erase b) s))

/-- A departure and the event that reports it, in that order (R106). -/
def departWith (i : EntryIx) (b : BufIx) (c : EventCode) (detail : Nat) (s : State) : State :=
  postEntry c i s.pool.buffers[b].msgId detail (depart i b s)

/-- A flush: the named messages depart in order, each with its event (R110). -/
def flush (i : EntryIx) (c : EventCode) (detail : Buffer → Nat) (bs : List BufIx) (s : State) : State :=
  bs.foldl (fun s b => departWith i b c (detail s.pool.buffers[b]) s) s

/-- The messages of an entry's list that a REMOVE takes while an exchange is in flight: those not marked IN_FLIGHT or
CANCEL_PENDING (R39). -/
def queuedMessages (i : EntryIx) (s : State) : List BufIx :=
  s.pool.outbound[i].filter fun b => s.pool.buffers[b].mark == .queued

/-- The mark of a message is set (R95). -/
def setMark (b : BufIx) (m : Mark) (s : State) : State := modBuffer b (fun x => { x with mark := m }) s

/-- The reply reservation returns to the free list (R119). -/
def releaseReservation (s : State) : State :=
  match s.pool.reserved with
  | none => s
  | some _ => bufferFreed { s with pool := { s.pool with reserved := none } }

/-- The head of the broadcast list departs: the broadcast number advances if it had been transmitted (R112), and its buffer
returns to the free list. -/
def departBroadcast (b : BufIx) (s : State) : State :=
  let sent := s.pool.buffers[b].transmitted
  bufferFreed { s with pool := { s.pool with
    broadcast := s.pool.broadcast.erase b
    broadcastNum := if sent then s.pool.broadcastNum + 1#3 else s.pool.broadcastNum } }

end Sys2Proof.Machine
end

