-- ==== Sys2Proof/Machine/Table.lean ====
section
/-! DEFINITION. What exchange and sweep outcomes do to the station table (sections 2.2 and 2.3). -/

namespace Sys2Proof.Machine

/-- An entry becomes EMPTY with every field at its EMPTY value, its outbound list empty (R22, R96). -/
def vacate (i : EntryIx) (s : State) : State := withEntry i Entry.vacant (withOutbound i [] s)

/-- The end of a retirement: the entry becomes EMPTY and STATION_RETIRED carries the address it held (R38, R40, R41). -/
def retire (i : EntryIx) (s : State) : State :=
  post { code := .stationRetired, entry := some i, address := s.table[i].address } (vacate i s)

/-- Whether the exchange in flight had its head marked CANCEL_PENDING after its target became RETIRING (R40). -/
def lateCancel (s : State) : Bool :=
  match s.engine.record with
  | none => false
  | some r => r.lateCancel

/-- The detail of the CANCELLED record of a retiring entry's head after any end but ACCEPT: HOST if it was marked
CANCEL_PENDING before the REMOVE, and REMOVED whatever its mark otherwise (R40), a mark made after the REMOVE included (DEDUCED,
log 7). -/
def retireDetail (late : Bool) (b : Buffer) : Nat :=
  if b.mark = .cancelPending ∧ late = false then 1 else 2

/-- A failed end of a RETIRING entry's exchange: its head leaves with its CANCELLED record and the entry retires (R40). -/
def retireFailed (i : EntryIx) (s : State) : State :=
  retire i (flush i .cancelled (retireDetail (lateCancel s)) s.pool.outbound[i] s)

/-- An entry enters LOST (R32): the state, the urgent list, STATION_LOST, and with hold_on_loss clear the flush. -/
def enterLost (i : EntryIx) (detail : Nat) (s : State) : State :=
  let s1 := postEntry .stationLost i 0#8 detail (dropUrgent i (modEntry i (fun e => { e with state := .lost }) s))
  if s1.table[i].holdOnLoss then s1
  else flush i .deliveryFailed (fun _ => 3) s1.pool.outbound[i] s1

/-- A failed attempt raises the entry's failed-attempt count, unless it is RETIRING (R26, R60). -/
def countFailedAttempt (i : EntryIx) (s : State) : State :=
  modEntry i (fun e => if e.state = .retiring then e else { e with failCount := satInc 65535 e.failCount }) s

/-- The entry fields a good outcome sets in any live state: the in-flight flag, the miss count, the good-exchange count
(R28, R29). -/
def goodFields (e : Entry) : Entry :=
  { e with inFlight := false, miss := 0, goodCount := satInc 65535 e.goodCount }

/-- A good outcome (R29; R34 for PARKED, R40 for RETIRING). -/
def goodOutcome (i : EntryIx) (s : State) : State :=
  match s.table[i].state with
  | .empty => s
  | .new => postEntry .stationOnline i 0#8 0 (modEntry i (fun e => { goodFields e with state := .online }) s)
  | .online => modEntry i goodFields s
  | .suspect => modEntry i (fun e => { goodFields e with state := .online }) s
  | .lost => postEntry .stationFound i 0#8 0 (modEntry i (fun e => { goodFields e with state := .online }) s)
  | .parked => modEntry i goodFields s
  | .retiring => retire i s

/-- The entry fields a failed outcome sets in any live state: the in-flight flag and the miss count (R28, R30). -/
def failedFields (e : Entry) : Entry := { e with inFlight := false, miss := satInc 15 e.miss }

/-- A failed outcome (R30, R31; R34 for PARKED, R40 for RETIRING). -/
def failedOutcome (i : EntryIx) (s : State) : State :=
  let s1 := modEntry i failedFields s
  let below := decide (s1.table[i].miss < s.params.lostLim)
  match s.table[i].state with
  | .empty => s
  | .new => if below then s1 else enterLost i 1 s1
  | .online => if below then modEntry i (fun e => { e with state := .suspect }) s1 else enterLost i 2 s1
  | .suspect => if below then s1 else enterLost i 2 s1
  | .lost => s1
  | .parked => s1
  | .retiring => retireFailed i s

/-- An abandoned outcome charges no miss and clears the in-flight flag (R33); a RETIRING entry's head that is still on the
list leaves with CANCELLED(REMOVED) and the entry retires (R41). -/
def abandonedOutcome (i : EntryIx) (s : State) : State :=
  if s.table[i].state = .retiring then
    retire i (flush i .cancelled (fun _ => 2) s.pool.outbound[i] s)
  else modEntry i (fun e => { e with inFlight := false }) s

/-- An IDENT's payload as an identity: type, serial high, serial low (R5, R25). -/
def identOf (bs : List Byte) : Ident :=
  { stationType := bs.getD 0 0#8, serial := wordOf (bs.getD 1 0#8) (bs.getD 2 0#8) }

/-- An IDENT applied to an entry added since the choice: the ident is recorded and the outcome is good (R25, R36). -/
def applyIdent (i : EntryIx) (d : Ident) (s : State) : State :=
  goodOutcome i (modEntry i (fun e => { e with ident := some d }) s)

/-- The record of an entry at ADD (R35). -/
def addedEntry (address : Nat) (hold urgentMore : Bool) : Entry :=
  { address := address, state := .new, holdOnLoss := hold, urgentOnMore := urgentMore, fresh := true }

/-- The record of an entry at a sweep auto-add (R37). -/
def autoAddedEntry (address : Nat) (d : Ident) : Entry :=
  { address := address, state := .online, ident := some d, fresh := true }

end Sys2Proof.Machine
end

