-- ==== Sys2Proof/Machine/Sweep.lean ====
section
/-! DEFINITION. The sweep unit: its choices, the outcomes of its probes, and the two sweep commands' effects (chapter 7). -/

namespace Sys2Proof.Machine

/-- The sweep record replaced. -/
def withSweep (w : Sweep) (s : State) : State := { s with sweep := w }

/-- The sweep completes: IDLE, the cursor left where it is, SWEEP_DONE(COMPLETE) (R145). -/
def sweepComplete (s : State) : State :=
  post { code := .sweepDone, detail := 1#16 } (withSweep { s.sweep with state := .idle } s)

/-- The sweep ends STOPPED, its record carrying the cursor as it stands (R146, R147). -/
def sweepStopped (s : State) : State :=
  post { code := .sweepDone, address := s.sweep.cursor, detail := 2#16 } (withSweep { s.sweep with state := .idle } s)

/-- The cursor past the held addresses below the last one (R140, step 1); `n` is the room left to the last address. -/
def skipHeld (s : State) : Nat → Nat → Nat
  | 0, c => c
  | n + 1, c => if (holderOf c s).isSome then skipHeld s n (c + 1) else c

/-- The sweep unit's choice (R140): the cursor moves past held addresses; a free one is offered, with the probe-outstanding
flag set, and otherwise the range is finished and the sweep completes. -/
def sweepChoice (s : State) : Option Nat × State :=
  let c := skipHeld s (s.sweep.last - s.sweep.cursor) s.sweep.cursor
  if (holderOf c s).isSome then (none, sweepComplete (withSweep { s.sweep with cursor := c } s))
  else (some c, withSweep { s.sweep with cursor := c, outstanding := true } s)

/-- What follows a decided outcome (R145, R147): the probe flag has cleared and the event is posted; the cursor moves up
below the last address; at the last address an ACTIVE sweep completes; a STOPPING sweep ends. -/
def sweepDecided (s : State) : State :=
  let moved := if s.sweep.cursor < s.sweep.last then withSweep { s.sweep with cursor := s.sweep.cursor + 1 } s else s
  match s.sweep.state with
  | .idle => s
  | .active => if s.sweep.cursor < s.sweep.last then moved else sweepComplete s
  | .stopping => sweepStopped moved

/-- The probe-outstanding flag clears (R141). -/
def probeEnded (s : State) : State := withSweep { s.sweep with outstanding := false } s

/-- A probe that is not decided (R148): the flag clears, the cursor stays, and a STOPPING sweep ends. -/
def sweepUndecided (s : State) : State :=
  let s1 := probeEnded s
  match s.sweep.state with
  | .stopping => sweepStopped s1
  | _ => s1

/-- An event of an IDENT from an address no entry holds (R142). -/
def identEvent (c : EventCode) (e : Option EntryIx) (a : Nat) (d : Ident) : Event :=
  { code := c, entry := e, address := a, id := d.stationType, detail := d.serial }

/-- An IDENT from an address no entry holds (R142): found, or with auto-add a new entry in the lowest EMPTY index (R37),
which is a wake (R89), or no room. -/
def sweepIdent (a : Nat) (d : Ident) (s : State) : State :=
  let s1 := probeEnded s
  sweepDecided
    (if s1.sweep.autoAdd then
      match lowestEmpty s1 with
      | some i => post (identEvent .sweepAdded (some i) a d) (wake (withEntry i (autoAddedEntry a d) s1))
      | none => post (identEvent .sweepNoRoom none a d) s1
    else post (identEvent .sweepFound none a d) s1)

/-- A probe that failed for a reason (R141): silent, not decided, or a conflict with its event (R143, R144, R148). -/
def sweepFailure (a : Nat) (r : Reason) (s : State) : State :=
  match r with
  | .contention => sweepUndecided s
  | .noReply => sweepDecided (probeEnded s)
  | _ => sweepDecided (post { code := .sweepConflict, address := a, detail := BitVec.ofNat 16 r.code } (probeEnded s))

/-- The end of a PROBE that got an IDENT (R63): the table takes it if an occupied entry now holds the address (R36), and
the sweep unit is then told only that its probe has ended; otherwise the sweep unit takes it. -/
def probeIdent (a : Nat) (d : Ident) (s : State) : State :=
  match holderOf a s with
  | some i => sweepDecided (probeEnded (applyIdent i d s))
  | none => sweepIdent a d s

end Sys2Proof.Machine
end

