-- ==== Sys2Proof/Machine/Scheduler.lean ====
section
/-! DEFINITION. The poll scheduler: starting an exchange, the four claims in their order, and the ring walk (chapter 4). -/

namespace Sys2Proof.Machine

/-! ## Starting an exchange (R49, R78) -/

/-- The engine takes a start (R49): the in-flight record with attempt 1, the table's in-flight flag for a POLL or DELIVER
(R28), the pool's IN_FLIGHT mark for a DELIVER or BROADCAST (R105, R111), SETTLE_WAIT and the quiet request (R159). -/
def startExchange (x : Exchange) (s : State) : State :=
  let s1 := match x with
    | .poll i _ => modEntry i (fun e => { e with inFlight := true }) s
    | .deliver i b => setMark b .inFlight (modEntry i (fun e => { e with inFlight := true }) s)
    | .probe _ => s
    | .broadcast b => setMark b .inFlight s
  quietRequest { s1 with engine := { s1.engine with state := .settleWait, record := some { exch := x } } }

/-- The reply reservation for a POLL: the given free buffer is set aside with length 0 and the pool-exhausted latch clears
(R78, R86, R119). -/
def reserve (b : BufIx) (s : State) : State :=
  let s1 := modBuffer b (fun x => { x with payload := [] }) s
  { s1 with
    pool := { s1.pool with reserved := some b }
    sched := { s1.sched with exhausted := false } }

/-- A POLL deferred for want of a free buffer: with the latch clear it is set and POOL_EXHAUSTED is posted (R86). -/
def deferPoll (i : EntryIx) (s : State) : State :=
  if s.sched.exhausted then s
  else postEntry .poolExhausted i 0#8 0 { s with sched := { s.sched with exhausted := true } }

/-- A chosen POLL is started if a buffer is free (true), and deferred otherwise (false) (R78, R86). -/
def tryPoll (i : EntryIx) (s : State) : Bool × State :=
  match s.pool.lowestFree with
  | some b => (true, startExchange (.poll i b) (reserve b s))
  | none => (false, deferPoll i s)

/-! ## The choice at a visit or a serving (R83, R84, R93) -/

/-- What a visit to an entry chooses (R83). -/
inductive Choice where
  | barren
  | offRecovery
  | deliver (b : BufIx)
  | poll
deriving DecidableEq, Repr

/-- The choice of R83 for an entry; `recovery` says whether a LOST entry is polled now (R84, R93). -/
def chooseFor (recovery : Bool) (i : EntryIx) (s : State) : Choice :=
  match s.table[i].state with
  | .empty => .barren
  | .parked => .barren
  | .retiring => .barren
  | .new => .poll
  | .suspect => .poll
  | .lost => if recovery then .poll else .offRecovery
  | .online =>
    if s.table[i].backoff = 0 then
      match headOf i s with
      | some b => .deliver b
      | none => .poll
    else .poll

/-- Whether a POLL of this entry now lowers its busy backoff (R85). -/
def lowersBackoff (i : EntryIx) (s : State) : Bool := s.table[i].state == .online && decide (0 < s.table[i].backoff)

/-- The backoff step of a visit or serving that chose POLL (R85). -/
def backoffStep (i : EntryIx) (s : State) : State :=
  if lowersBackoff i s then modEntry i (fun e => { e with backoff := e.backoff - 1 }) s else s

/-- The pass counter is a multiple of RECOVER (R84). -/
def recoveryPass (s : State) : Bool := s.sched.passCount.toNat % s.params.recover == 0

/-! ## Claim 2: the urgent list (R93) -/

/-- A head that is EMPTY, PARKED or RETIRING is no longer eligible (R93). -/
def ineligible (i : EntryIx) (s : State) : Bool :=
  match s.table[i].state with
  | .empty => true
  | .parked => true
  | .retiring => true
  | _ => false

/-- Ineligible heads leave the list without line time; the flag of an occupied one clears (R93). -/
def dropIneligible : List EntryIx → State → State
  | [], s => { s with sched := { s.sched with urgent := [] } }
  | i :: rest, s =>
    if ineligible i s then
      dropIneligible rest
        (if s.table[i].state = .empty then s else modEntry i (fun e => { e with urgentListed := false }) s)
    else { s with sched := { s.sched with urgent := i :: rest } }

/-- The served head leaves the list and its flag clears (R93). -/
def servedHead (i : EntryIx) (s : State) : State :=
  modEntry i (fun e => { e with urgentListed := false })
    { s with sched := { s.sched with urgent := s.sched.urgent.tail } }

/-- Claim 2 (R93): true if it started an exchange. A deferred head stays, and is remembered for R75. -/
def urgentClaim (s : State) : Bool × State :=
  let s1 := dropIneligible s.sched.urgent s
  match s1.sched.urgent with
  | [] => (false, s1)
  | i :: _ =>
    match chooseFor true i s1 with
    | .deliver b => (true, startExchange (.deliver i b) (servedHead i s1))
    | .poll =>
      match tryPoll i (backoffStep i s1) with
      | (true, s2) => (true, servedHead i s2)
      | (false, s2) => (false, { s2 with sched := { s2.sched with urgentDeferred := some i } })
    | _ => (false, s1)

/-! ## Claim 3: the sweep (R90) -/

/-- Claim 3 (R90): with the sweep ACTIVE and credit held the sweep unit is asked for an address; a PROBE to it clears the
credit unless the walk is DORMANT. True if it started an exchange. -/
def sweepClaim (s : State) : Bool × State :=
  if s.sweep.state = .active ∧ s.sched.credit = true then
    match sweepChoice s with
    | (some a, s1) =>
      (true, startExchange (.probe a) { s1 with sched := { s1.sched with credit := decide (s1.sched.walk = .dormant) } })
    | (none, s1) => (false, s1)
  else (false, s)

/-! ## Claim 4: the ring walk (R80 to R87) -/

/-- A pass boundary: the pass counter goes up by one, wrapping, and sweep credit is granted (R81). -/
def passBoundary (s : State) : State :=
  { s with sched := { s.sched with passCount := s.sched.passCount + 1#16, credit := true } }

/-- The slot after one, below RINGLEN; none at the last slot in use (R80). -/
def nextSlot (p : SlotIx) (ringLen : Nat) : Option SlotIx :=
  if h : p.val + 1 < 64 then (if p.val + 1 < ringLen then some ⟨p.val + 1, h⟩ else none) else none

/-- The advance after a visit (R80), and whether it was a pass boundary. -/
def advanceSlot (s : State) : Bool × State :=
  match nextSlot s.sched.pointer s.params.ringLen with
  | some p => (false, { s with sched := { s.sched with pointer := p } })
  | none => (true, passBoundary { s with sched := { s.sched with pointer := 0 } })

/-- A visit of slot 0 loads the pace timer with PACE; a PACE of 0 loads an expired timer (R82). -/
def loadPace (s : State) : State :=
  { s with sched := { s.sched with
    paceTimer := if s.params.pace = 0 then none else some (s.now + s.params.pace * Config.millisecond) } }

/-- What a visit adds to the fruitless run (R87). -/
inductive Fruit where
  | started
  | loweredBackoff
  | barren
  | deferred
  | offRecovery
deriving DecidableEq, Repr

/-- The run after a visit (R87). -/
def Run.after (r : Run) : Fruit → Run
  | .started => {}
  | .loweredBackoff => {}
  | .barren => { r with count := r.count + 1 }
  | .deferred => { r with count := r.count + 1, deferral := true }
  | .offRecovery => { r with count := r.count + 1, live := true }

/-- The choice of a visit carried out (R83, R85, R86). -/
def carryOut (i : EntryIx) (s : State) : Fruit × State :=
  match chooseFor (recoveryPass s) i s with
  | .barren => (.barren, s)
  | .offRecovery => (.offRecovery, s)
  | .deliver b => (.started, startExchange (.deliver i b) s)
  | .poll =>
    match tryPoll i (backoffStep i s) with
    | (true, s1) => (.started, s1)
    | (false, s1) => (if lowersBackoff i s then .loweredBackoff else .deferred, s1)

/-- One visit (R82, R83, R87): the pace load at slot 0, the choice, and the run. -/
def visit (s : State) : Fruit × State :=
  let s1 := if s.sched.pointer = 0 then loadPace s else s
  let (f, s2) := match s1.sched.ring[s1.sched.pointer] with
    | none => (Fruit.barren, s1)
    | some i => carryOut i s1
  (f, { s2 with sched := { s2.sched with run := s2.sched.run.after f } })

/-- The comparison after a visit and its advance (R87): a run that has gone round the ring ends in BUFFER_WAIT, in DORMANT,
where credit is held continuously (R90), or is emptied. -/
def endRun (s : State) : State :=
  if s.sched.run.count < s.params.ringLen then s
  else if s.sched.run.deferral then { s with sched := { s.sched with walk := .bufferWait } }
  else if s.sched.run.live then { s with sched := { s.sched with run := {} } }
  else { s with sched := { s.sched with walk := .dormant, credit := true } }

/-- How the walk goes on within a look. -/
inductive Walked where
  | started
  | again
deriving DecidableEq, Repr

/-- A return from the walk to the sweep claim (R81). -/
def returnToSweep (s : State) : Walked × State :=
  match sweepClaim s with
  | (true, s1) => (.started, s1)
  | (false, s1) => (.again, s1)

/-- One move of the walk in WALKING: a pointer left at RINGLEN or above moves to slot 0 as a pass boundary (R80); slot 0
with the pace timer running is PACE_WAIT (R82); otherwise a visit, its advance, and the end of the run. A pass boundary
returns to the sweep claim (R81), and so does the walk's becoming DORMANT (DEDUCED, log 5), unless the visit started an exchange. -/
def walkMove (s : State) : Walked × State :=
  if s.params.ringLen ≤ s.sched.pointer.val then
    returnToSweep (passBoundary { s with sched := { s.sched with pointer := 0 } })
  else if s.sched.pointer = 0 ∧ s.sched.paceTimer.isSome then
    (.again, { s with sched := { s.sched with walk := .paceWait } })
  else
    let (f, s1) := visit s
    let (boundary, s2) := advanceSlot s1
    if f = .started then (.started, s2)
    else
      let s3 := endRun s2
      if boundary || decide (s3.sched.walk = .dormant) then returnToSweep s3 else (.again, s3)

/-- The ring walk (claim 4): moves until an exchange is started or the walk state is no longer WALKING. -/
def walk : Nat → State → State
  | 0, s => s
  | n + 1, s =>
    if s.sched.walk = .walking then
      match walkMove s with
      | (.started, s1) => s1
      | (.again, s1) => walk n s1
    else s

/-! ## The look (R75, R76) -/

/-- One look: the claims in order, the first that yields an exchange is served (R76). -/
def look (s : State) : State :=
  match s.pool.broadcast with
  | b :: _ => startExchange (.broadcast b) s
  | [] =>
    match urgentClaim s with
    | (true, s1) => s1
    | (false, s1) =>
      match sweepClaim s1 with
      | (true, s2) => s2
      | (false, s2) => walk Config.walkFuel s2

/-- The scheduler may look: engine IDLE and line RUNNING (R75). -/
def mayLook (s : State) : Bool := s.engine.state == .idle && s.line.state == .running

/-- The end of every step (DESIGN CHOICE, log 4): if an arrival of R75 has come and the scheduler may look, it looks once; an arrival that
comes while it may not causes no look. -/
def finish (s : State) : State :=
  if s.sched.lookDue then
    let s1 := { s with sched := { s.sched with lookDue := false } }
    if mayLook s then look { s1 with sched := { s1.sched with urgentDeferred := none } } else s1
  else s

/-- A step that the part takes whole (R189, R197): nothing while it is held in reset; otherwise its effect and then the
look, if one is due. -/
def act (f : State → State) (s : State) : State := if s.port.inReset then s else finish (f s)

end Sys2Proof.Machine
end

