-- ==== Sys2Proof/Machine/Replies.lean ====
section
/-! DEFINITION. What good replies do: the taking of a report (chapter 6) and the fate of a delivered message (section 5.3). -/

namespace Sys2Proof.Machine

/-! ## Reports (R121 to R129) -/

/-- The inbound path's request to list an entry as urgent (R92). -/
def requestUrgent (i : EntryIx) (s : State) : State :=
  if ineligible i s then s
  else if s.sched.urgent.contains i then s
  else if Config.urgentCapacity ≤ s.sched.urgent.length then s
  else listUrgent i s

/-- The more bit of a report that was taken, new or duplicate (R129). -/
def actOnMore (i : EntryIx) (tag : BitVec 4) (s : State) : State :=
  if tag.getLsbD 3 && s.table[i].urgentOnMore then requestUrgent i s else s

/-- A duplicate: the reservation returns to free and the entry's duplicate-report count rises (R124, R26). -/
def takeDuplicate (i : EntryIx) (s : State) : State :=
  modEntry i (fun e => { e with dupCount := satInc 255 e.dupCount }) (releaseReservation s)

/-- The buffer's fields as a report is taken as new, a packed payload expanded (R125, R126). -/
def takenBuffer (i : EntryIx) (address : Nat) (num : BitVec 3) (packed : Bool) (b : Buffer) : Buffer :=
  { b with
    srcEntry := i
    srcAddr := address
    reportNum := num
    packed := packed
    payload := if packed then expand b.payload else b.payload }

/-- A new report: the reserved buffer moves to the tail of the inbound queue and the entry's last-taken report number is
set (R125). -/
def takeNew (i : EntryIx) (packed : Bool) (num : BitVec 3) (s : State) : State :=
  match s.pool.reserved with
  | none => s
  | some b =>
    let s1 := modBuffer b (takenBuffer i s.table[i].address num packed) s
    modEntry i (fun e => { e with lastTaken := some num })
      { s1 with pool := { s1.pool with reserved := none, inbound := s1.pool.inbound ++ [b] } }

/-- A REPORT or PACKED_REPORT handed over (R121): discarded for a RETIRING target (R123), a duplicate (R124), or new (R125);
the more bit of a report that was taken is acted on (R129). -/
def takeReport (i : EntryIx) (packed : Bool) (tag : BitVec 4) (s : State) : State :=
  if s.table[i].state = .retiring then releaseReservation s
  else if s.table[i].lastTaken = some (numOf tag) then actOnMore i tag (takeDuplicate i s)
  else actOnMore i tag (takeNew i packed (numOf tag) s)

/-! ## Deliveries (R107 to R109, R115, R40) -/

/-- ACCEPT: the message departs, the fresh flag clears, and DELIVERED is posted (R107). -/
def acceptEnd (i : EntryIx) (b : BufIx) (s : State) : State :=
  postEntry .delivered i s.pool.buffers[b].msgId 0 (modEntry i (fun e => { e with fresh := false }) (depart i b s))

/-- REFUSE: the message departs with DELIVERY_FAILED(REFUSED), or a CANCEL_PENDING one with CANCELLED(HOST) (R108, R115). -/
def refuseEnd (i : EntryIx) (b : BufIx) (s : State) : State :=
  if s.pool.buffers[b].mark = .cancelPending then departWith i b .cancelled 1 s else departWith i b .deliveryFailed 1 s

/-- BUSY: the backoff is set; a CANCEL_PENDING message departs with CANCELLED(HOST); another has its busy count raised and
stays QUEUED below BUSYLIM, and departs with DELIVERY_FAILED(BUSY_LIMIT) at it (R109, R115). -/
def busyEnd (i : EntryIx) (b : BufIx) (s : State) : State :=
  let s1 := modEntry i (fun e => { e with backoff := s.params.backoff }) s
  if s.pool.buffers[b].mark = .cancelPending then departWith i b .cancelled 1 s1
  else
    let s2 := modBuffer b (fun x => { x with busyCount := satInc 15 x.busyCount }) s1
    if s2.pool.buffers[b].busyCount < s2.params.busyLim then setMark b .queued s2
    else departWith i b .deliveryFailed 2 s2

/-- The pool's part in the good end of a DELIVER (R105 step 3); for a RETIRING target, R40's. -/
def deliverEnd (i : EntryIx) (b : BufIx) (k : ReplyKind) (s : State) : State :=
  match k with
  | .accept => acceptEnd i b s
  | .refuse =>
    if s.table[i].state = .retiring then departWith i b .cancelled (retireDetail (lateCancel s) s.pool.buffers[b]) s
    else refuseEnd i b s
  | .busy =>
    if s.table[i].state = .retiring then departWith i b .cancelled (retireDetail (lateCancel s) s.pool.buffers[b]) s
    else busyEnd i b s
  | _ => s

end Sys2Proof.Machine
end

