-- ==== Sys2Proof/Machine/Engine.lean ====
section
/-! DEFINITION. The exchange engine: frames, ends, failures, withdrawal and abandonment, the handling of framer reports
(chapter 3), and line control's end notice and fault act (R156, R158). -/

namespace Sys2Proof.Machine

/-! ## The ends (R65 to R68) -/

/-- The engine discards its record and enters IDLE; its timers stop. -/
def idleEngine (s : State) : State := { s with engine := {} }

/-- Line control takes the end of an exchange (R156, R67): it ends a drain; in RUNNING the engine's return to IDLE is an
arrival; otherwise it is dropped. -/
def endNotice (s : State) : State :=
  match s.line.state with
  | .draining => post { code := .lineStopped, detail := 1#16 } { s with line := { s.line with state := .stopped } }
  | .running => arrival s
  | .stopped => s
  | .faulted => s

/-- The last two steps of an exchange's end (R65, R66). -/
def endExchange (s : State) : State := endNotice (idleEngine s)

/-- The causes of an abandonment other than reset, with their codes (R69, R172). -/
inductive Cause where
  | abort | fault | cancel | retire
deriving DecidableEq, Repr

/-- The cause's code (R172). -/
def Cause.code : Cause → Nat
  | .abort => 1
  | .fault => 2
  | .cancel => 3
  | .retire => 4

/-- The kind's code: the frame kind code of the master kind (R5, R172). -/
def Exchange.code : Exchange → Nat
  | .poll _ _ => 1
  | .deliver _ _ => 2
  | .probe _ => 3
  | .broadcast _ => 4

/-- The EXCHANGE_ABORTED record (R69, R172). -/
def abortedEvent (x : Exchange) (c : Cause) (s : State) : Event :=
  let detail := BitVec.ofNat 16 (256 * x.code + c.code)
  match x with
  | .poll i _ => { code := .exchangeAborted, entry := some i, address := s.table[i].address, detail := detail }
  | .deliver i b =>
    { code := .exchangeAborted, entry := some i, address := s.table[i].address, id := s.pool.buffers[b].msgId, detail := detail }
  | .probe a => { code := .exchangeAborted, address := a, detail := detail }
  | .broadcast b => { code := .exchangeAborted, address := 127, id := s.pool.buffers[b].msgId, detail := detail }

/-- What an abandonment does with the message of a DELIVER (R68 step 3): a CANCEL_PENDING one leaves with CANCELLED(HOST),
another returns to QUEUED at the head. -/
def abandonMessage (i : EntryIx) (b : BufIx) (s : State) : State :=
  if s.pool.buffers[b].mark = .cancelPending then departWith i b .cancelled 1 s else setMark b .queued s

/-- Steps 3 to 5 of the abandonment path: the buffers, the table, the sweep unit (R68). -/
def abandonOutcome (x : Exchange) (s : State) : State :=
  match x with
  | .poll i _ => abandonedOutcome i (releaseReservation s)
  | .deliver i b => abandonedOutcome i (abandonMessage i b s)
  | .probe _ => sweepUndecided s
  | .broadcast b => setMark b .queued s

/-- The abandonment path for every cause but reset (R68): the framer stops, EXCHANGE_ABORTED is posted, the buffers, the
table and the sweep unit take it, the engine enters IDLE. A pending quiet request ends with it (R162). -/
def abandon (c : Cause) (rxdHigh : Bool) (s : State) : State :=
  match s.engine.record with
  | none => s
  | some r =>
    let s1 := framerStop rxdHigh s
    let s2 := idleEngine (abandonOutcome r.exch (post (abortedEvent r.exch c s1) s1))
    { s2 with line := { s2.line with quiet := none } }

/-- A withdrawal (R70): the abandonment path with cause CANCEL or RETIRE, and the end notice that follows it (R67, R69). The
framer is not in ECHO then, so the level of RXD plays no part. -/
def withdraw (c : Cause) (s : State) : State := endNotice (abandon c true s)

/-- A withdrawal notice (R70): it withdraws the exchange at once in SETTLE_WAIT and SETTLE; elsewhere the attempt runs on to
the decision of R60, or nothing is in flight. -/
def withdrawalNotice (c : Cause) (s : State) : State :=
  match s.engine.state with
  | .settleWait => withdraw c s
  | .settle => withdraw c s
  | _ => s

/-- Line control's fault act (R158), with the LINE_FAULT detail of its cause (R171): the abandonment, the quiet request
dropped, FAULTED, and LINE_FAULT. It is made in RUNNING and DRAINING only. -/
def lineFault (detail : Word) (rxdHigh : Bool) (s : State) : State :=
  if s.line.state = .running ∨ s.line.state = .draining then
    let s1 := abandon .fault rxdHigh s
    post { code := .lineFault, detail := detail } { s1 with line := { s1.line with state := .faulted, quiet := none } }
  else s

/-! ## Failed attempts (R60) -/

/-- The in-flight record changed. -/
def modRecord (f : InFlight → InFlight) (s : State) : State :=
  { s with engine := { s.engine with record := s.engine.record.map f } }

/-- The engine state changed. -/
def withEngineState (e : EngineState) (s : State) : State := { s with engine := { s.engine with state := e } }

/-- An attempt fails (R60): the reason is recorded, a POLL or DELIVER reports it to the table (R26), and a POLL's reply
buffer is cleared (R120). -/
def failAttempt (r : Reason) (s : State) : State :=
  let s1 := modRecord (fun x => { x with lastFailure := some r }) s
  match s.engine.record with
  | none => s
  | some x =>
    match x.exch with
    | .poll i b => modBuffer b (fun y => { y with payload := [] }) (countFailedAttempt i s1)
    | .deliver i _ => countFailedAttempt i s1
    | .probe _ => s1
    | .broadcast _ => s1

/-- SETTLE with its quiet request (R61, R64, R159). -/
def enterSettle (s : State) : State := quietRequest (withEngineState .settle s)

/-- A retry (R61): the attempt number goes up by one, and SETTLE. -/
def retry (s : State) : State := enterSettle (modRecord (fun x => { x with attempt := x.attempt + 1 }) s)

/-- The failed end of a POLL or DELIVER (R66). For a RETIRING target of a DELIVER the head is left to R40. -/
def failedEnd (x : Exchange) (s : State) : State :=
  match x with
  | .poll i _ => endExchange (failedOutcome i (releaseReservation s))
  | .deliver i b =>
    endExchange (failedOutcome i (if s.table[i].state = .retiring then s else setMark b .queued s))
  | .probe _ => s
  | .broadcast _ => s

/-- The decision for an exchange that has a target entry: withdrawal with cause RETIRE, a retry, or the failed end (R60,
steps 3 to 5; R62). -/
def decideRetry (i : EntryIx) (r : InFlight) (s : State) : State :=
  if r.attempt ≤ s.params.retries then
    if s.table[i].state = .retiring then withdraw .retire s else retry s
  else failedEnd r.exch s

/-- The engine's reply window, take limit and drain limit stop (R54, R58, R68). -/
def stopTimers (s : State) : State :=
  { s with engine := { s.engine with windowEnd := none, takeLimit := none, drainLimit := none } }

/-- The decision after a failed attempt (R60), with no timer running. -/
def decide60 (s : State) : State :=
  match s.engine.record with
  | none => s
  | some r =>
    match r.exch with
    | .probe a => endExchange (sweepFailure a (r.lastFailure.getD .noReply) s)
    | .deliver i b => if s.pool.buffers[b].mark = .cancelPending then withdraw .cancel s else decideRetry i r s
    | .poll i _ => decideRetry i r s
    | .broadcast _ => enterSettle s

/-- The decision after a failed attempt (R60): the limits stop, and one of its six ways is taken. -/
def decision (s : State) : State := decide60 (stopTimers s)

/-! ## Transmissions (R52, R11) -/

/-- The tag of an exchange's frame as its target stands now (R52, R6). -/
def tagNow (x : Exchange) (s : State) : BitVec 4 :=
  match x with
  | .poll i _ => pollTag s.table[i].lastTaken
  | .deliver i _ => deliverTag s.table[i].fresh s.table[i].nextNum
  | .probe _ => 0#4
  | .broadcast _ => broadcastTag s.pool.broadcastNum

/-- The address an exchange's frame carries (R4, R48). -/
def frameAddress (x : Exchange) (s : State) : Nat :=
  match x with
  | .poll i _ => s.table[i].address
  | .deliver i _ => s.table[i].address
  | .probe a => a
  | .broadcast _ => 127

/-- The payload an exchange's frame carries (R4, R52). -/
def framePayload (x : Exchange) (s : State) : List Byte :=
  match x with
  | .poll _ _ => []
  | .deliver _ b => s.pool.buffers[b].payload
  | .probe _ => []
  | .broadcast b => s.pool.buffers[b].payload

/-- The pool marks the message of a DELIVER or BROADCAST transmitted (R52, R105, R111). -/
def markTransmitted (x : Exchange) (s : State) : State :=
  match x with
  | .poll _ _ => s
  | .deliver _ b => modBuffer b (fun y => { y with transmitted := true }) s
  | .probe _ => s
  | .broadcast b => modBuffer b (fun y => { y with transmitted := true }) s

/-- The frame is built and its tag recorded (R52). -/
def buildFrame (x : Exchange) (s : State) : State :=
  let tag := tagNow x s
  let chars := frameChars (frameAddress x s) x.code tag (framePayload x s)
  markTransmitted x (modRecord (fun r => { r with tag := some tag, frame := chars }) s)

/-- The framer takes a frame (R11): DE with TXD high, the mode ECHO, the CRC generator run over the covered bytes, the echo
check setting read (R13). A character in assembly is not completed (R19). -/
def beginTransmission (chars : List Byte) (s : State) : State :=
  { s with framer := { s.framer with
    mode := .echo
    driverEnable := true
    tx := some { chars := chars, begun := s.now, echoCheck := echoCheckOn s.line.cfg.lopt }
    crcGen := crcOf ((chars.drop 1).take (chars.length - 3))
    rx := .idle
    gap := none } }

/-- SENDING (R51, R52): the frame built at the first transmission, and the same frame for a retry or repeat. -/
def transmit (s : State) : State :=
  match s.engine.record with
  | none => s
  | some r =>
    let s1 := match s.engine.state with
      | .settleWait => buildFrame r.exch s
      | _ => s
    match s1.engine.record with
    | none => s1
    | some r1 => beginTransmission r1.frame (withEngineState .sending s1)

/-! ## The reply (R54 to R59) -/

/-- The engine returns the framer to DISCARD. -/
def discardMode (s : State) : State := { s with framer := { s.framer with mode := .discard } }

/-- DRAIN with its limit of 64 character times (R58). -/
def enterDrain (s : State) : State :=
  { s with engine := { s.engine with
    state := .drain
    windowEnd := none
    takeLimit := none
    drainLimit := some (s.now + Config.limitChars * charNow s) } }

/-- The header check (R55): the first check that fails gives the reason. -/
def headerFault (x : Exchange) (address : Nat) (f : Framer) : Option Reason :=
  if f.hdrAddress.getLsbD 7 = false then some .foreignAddress
  else if f.hdrAddress.toNat % 128 ≠ address then some .foreignAddress
  else
    match replyKind (kindOf f.hdrKindTag) with
    | none => some .unexpectedKind
    | some k =>
      if answers x k = false then some .unexpectedKind
      else if lengthAllowed k f.hdrLength.toNat = false then some .unexpectedKind
      else none

/-- A payload byte (R56, R120): into the reply buffer of a POLL, or kept with the attempt of a PROBE. -/
def storePayload (x : Exchange) (d : Byte) (s : State) : State :=
  match x with
  | .poll _ b => modBuffer b (fun y => { y with payload := y.payload ++ [d] }) s
  | .deliver _ _ => s
  | .probe _ => modRecord (fun r => { r with identBytes := r.identBytes ++ [d] }) s
  | .broadcast _ => s

/-- The payload of a reply as it stands: in the reply buffer of a POLL. -/
def replyPayload (x : Exchange) (s : State) : List Byte :=
  match x with
  | .poll _ b => s.pool.buffers[b].payload
  | _ => []

/-- The classification of a complete frame (R57): the first check that fails gives the reason. -/
def classify (r : InFlight) (k : ReplyKind) (crcGood : Bool) (s : State) : Option Reason :=
  if crcGood = false then some .crcError
  else
    match k with
    | .accept => if (r.tag.map numOf) = some (numOf (tagOf s.framer.hdrKindTag)) then none else some .tagMismatch
    | .busy => if (r.tag.map numOf) = some (numOf (tagOf s.framer.hdrKindTag)) then none else some .tagMismatch
    | .refuse => if (r.tag.map numOf) = some (numOf (tagOf s.framer.hdrKindTag)) then none else some .tagMismatch
    | .packedReport =>
      if s.framer.hdrLength.toNat % 2 = 1 then some .badPacking
      else if Config.maxPayload < expandedLength (replyPayload r.exch s) then some .overlength
      else none
    | _ => none

/-- The good end of an exchange (R59, R65): the reply or message first, then the table, then the engine and line control. -/
def goodEnd (r : InFlight) (k : ReplyKind) (s : State) : State :=
  let tag := tagOf s.framer.hdrKindTag
  match r.exch with
  | .poll i _ =>
    match k with
    | .report => endExchange (goodOutcome i (takeReport i false tag s))
    | .packedReport => endExchange (goodOutcome i (takeReport i true tag s))
    | _ => endExchange (goodOutcome i (releaseReservation s))
  | .deliver i b => endExchange (goodOutcome i (deliverEnd i b k s))
  | .probe a => endExchange (probeIdent a (identOf r.identBytes) s)
  | .broadcast _ => s

/-- A framer report in the engine's hands, in a state other than GUARD (R54 to R58); in a state that does not wait for it a
report is dropped (R72). A frame that is complete has passed the header check (R55), so its kind answers the exchange; the good
end asks for that once more, so that it never ends an exchange by a reply of another kind (DESIGN CHOICE, log 29). -/
def handleReport (p : Report) (s : State) : State :=
  match s.engine.record with
  | none => s
  | some r =>
    match s.engine.state, p with
    | .await, .leadTaken edge =>
      if (match s.engine.windowEnd with
          | some w => decide (edge ≤ w)
          | none => false) then
        { s with engine := { s.engine with state := .receiving, windowEnd := none, takeLimit := none } }
      else enterDrain (discardMode (failAttempt .noReply s))
    | .receiving, .header =>
      match headerFault r.exch (frameAddress r.exch s) s.framer with
      | some why => enterDrain (discardMode (failAttempt why s))
      | none => s
    | .receiving, .overlength => enterDrain (failAttempt .overlength s)
    | .receiving, .payloadByte d => storePayload r.exch d s
    | .receiving, .framing => enterDrain (failAttempt .framing s)
    | .receiving, .truncated => decision (failAttempt .truncated s)
    | .receiving, .complete good =>
      match replyKind (kindOf s.framer.hdrKindTag) with
      | none => decision (failAttempt .unexpectedKind s)
      | some k =>
        match classify r k good s with
        | some why => decision (failAttempt why s)
        | none => if answers r.exch k then goodEnd r k s else decision (failAttempt .unexpectedKind s)
    | .drain, .quietAfterDiscard => decision s
    | _, _ => s

/-- A framer report to the engine: in GUARD it is kept in order (R53), elsewhere it is handled. -/
def engineReport (p : Report) (s : State) : State :=
  if s.engine.state = .guard then { s with engine := { s.engine with kept := s.engine.kept ++ [p] } }
  else handleReport p s

end Sys2Proof.Machine
end

