-- ==== Sys2Proof/Machine/Framer.lean ====
section
/-! DEFINITION. The line framer's steps: start edges, characters in each receive mode, breaks, the transmission's echo, end
and release, and the gap check (chapter 1); and the steps of the engine's limits. -/

namespace Sys2Proof.Machine

/-- The framer record changed. -/
def modFramer (f : Framer → Framer) (s : State) : State := { s with framer := f s.framer }

/-! ## Counting (R20) -/

/-- The stray count raised (R20). -/
def countStray (s : State) : State := { s with line := { s.line with stray := satInc 65535 s.line.stray } }

/-- The noise count raised (R20). -/
def countNoise (s : State) : State := { s with line := { s.line with noise := satInc 65535 s.line.noise } }

/-! ## Start edges (R2) -/

/-- The effect of a falling edge on RXD (R2, R17): with the receiver looking for one it is a start edge, its time is marked
and the gap timer stops. A receiver in ECHO takes its timing from the transmitter (R13). -/
def startEdge (wait : Nat) (s : State) : State :=
  if s.framer.rx = .idle ∧ s.framer.mode ≠ .echo then
    let s1 := advanceTo (s.now + wait) s
    modFramer (fun f => { f with rx := .assembling s1.now false, gap := none }) s1
  else s

/-- START_EDGE. -/
def execStartEdge (wait : Nat) (s : State) : Host.Outcome State Fault Refusal := .next (act (startEdge wait) s)

/-- The effect of the mid-bit check of a start edge (R2, R19): high is a false start and the receiver waits for the next
edge, the gap timer staying as it is (DEDUCED, log 9); low in WATCH is an activity notice. -/
def startEdgeCheck (rxdHigh : Bool) (s : State) : State :=
  match s.framer.rx with
  | .assembling edge false =>
    let s1 := advanceTo (edge + halfNow s) s
    if rxdHigh then modFramer (fun f => { f with rx := .idle }) s1
    else
      let s2 := modFramer (fun f => { f with rx := .assembling edge true }) s1
      if s.framer.mode = .watch then activityNotice s2 else s2
  | _ => s

/-- START_EDGE_CHECK. -/
def execStartEdgeCheck (rxdHigh : Bool) (s : State) : Host.Outcome State Fault Refusal := .next (act (startEdgeCheck rxdHigh) s)

/-! ## Characters by receive mode (R15, R16, R18, R19) -/

/-- A character completed in WATCH (R19). -/
def watchCharacter (s : State) : State := activityNotice (countStray s)

/-- The gap timer as it stands after a stop-bit sample: running from it, or stopped while RXD is low (R17). -/
def gapFrom (stop : Bool) (s : State) : Option Nat := if stop then some (s.now + s.line.cfg.lgap * charNow s) else none

/-- A character completed in HUNT (R15): a LEAD starts a collection and is reported with its start edge; every other raises
the noise count. -/
def huntCharacter (edge : Nat) (data : Byte) (stop : Bool) (s : State) : State :=
  if data = Config.lead ∧ stop = true then
    engineReport (.leadTaken edge)
      (modFramer (fun f => { f with
        mode := .collect
        crcCheck := crcStart
        hdrAddress := 0#8
        hdrKindTag := 0#8
        hdrLength := 0#8
        taken := 1
        gap := gapFrom stop s }) s)
  else countNoise s

/-- A byte through the CRC checker, counted as taken (R16). -/
def collected (data : Byte) (f : Framer) : Framer :=
  { f with crcCheck := crcByte f.crcCheck data, taken := f.taken + 1 }

/-- A character taken in COLLECT in its turn (R16): ADDRESS, KIND/TAG, LENGTH with the header's report, payload, and the two
CRC bytes, the second of which completes the frame with the verdict of R7. -/
def collectByte (data : Byte) (s : State) : State :=
  let f := s.framer
  if f.taken ≤ 1 then modFramer (fun g => { collected data g with hdrAddress := data }) s
  else if f.taken = 2 then modFramer (fun g => { collected data g with hdrKindTag := data }) s
  else if f.taken = 3 then
    if Config.maxPayload < data.toNat then
      engineReport .overlength (modFramer (fun g => { collected data g with hdrLength := data, mode := .discard }) s)
    else engineReport .header (modFramer (fun g => { collected data g with hdrLength := data }) s)
  else if f.taken < 4 + f.hdrLength.toNat then engineReport (.payloadByte data) (modFramer (collected data) s)
  else if f.taken = 4 + f.hdrLength.toNat then modFramer (fun g => { g with crcHigh := data, taken := g.taken + 1 }) s
  else
    engineReport (.complete (decide (wordOf f.crcHigh data = f.crcCheck)))
      (modFramer (fun g => { g with taken := g.taken + 1, mode := .watch, gap := none }) s)

/-- A character completed in COLLECT (R16): with a framing error it is not taken, and FRAMING is reported from DISCARD. -/
def collectCharacter (data : Byte) (stop : Bool) (s : State) : State :=
  let s1 := modFramer (fun f => { f with gap := gapFrom stop s }) s
  if stop then collectByte data s1
  else engineReport .framing (modFramer (fun f => { f with mode := .discard }) s1)

/-- A character completed in DISCARD is dropped; it only restarts the gap timer (R17, R18). -/
def discardCharacter (stop : Bool) (s : State) : State := modFramer (fun f => { f with gap := gapFrom stop s }) s

/-- The receiver after a stop-bit sample (R2): looking for a start edge, or after a framing error waiting for RXD high. -/
def afterSample (stop : Bool) (t : Nat) : Receiver := if stop then .idle else .low t

/-- The moment a character in assembly is complete: its stop-bit sample, 9.5 bit times after its start edge (R2). The step
exists only where a character is in assembly and the receive mode is the one named; otherwise nothing changes (DESIGN CHOICE, log 6). -/
def completeIn (m : RxMode) (stop : Bool) (f : Nat → State → State) (s : State) : State :=
  match s.framer.rx with
  | .assembling edge _ =>
    if s.framer.mode = m then
      let s1 := advanceTo (edge + Config.charSample s.line.cfg.lrate) s
      f edge (modFramer (fun g => { g with rx := afterSample stop s1.now }) s1)
    else s
  | _ => s

/-- STRAY_CHARACTER (R19). -/
def execStrayCharacter (_data : Byte) (stop : Bool) (s : State) : Host.Outcome State Fault Refusal :=
  .next (act (completeIn .watch stop fun _ => watchCharacter) s)

/-- HUNT_CHARACTER (R15). -/
def execHuntCharacter (data : Byte) (stop : Bool) (s : State) : Host.Outcome State Fault Refusal :=
  .next (act (completeIn .hunt stop fun edge => huntCharacter edge data stop) s)

/-- COLLECT_CHARACTER (R16). -/
def execCollectCharacter (data : Byte) (stop : Bool) (s : State) : Host.Outcome State Fault Refusal :=
  .next (act (completeIn .collect stop fun _ => collectCharacter data stop) s)

/-- DISCARD_CHARACTER (R18). -/
def execDiscardCharacter (_data : Byte) (stop : Bool) (s : State) : Host.Outcome State Fault Refusal :=
  .next (act (completeIn .discard stop fun _ => discardCharacter stop) s)

/-! ## Breaks (R2) -/

/-- The effect of one more character time of RXD low after a framing error (R2): a character 0x00 with a framing error, in
the mode then in force. Its character time always runs from the last character completed: a high of RXD shorter than one bit time
does not start it afresh (DESIGN CHOICE, log 32). -/
def breakCharacter (s : State) : State :=
  match s.framer.rx with
  | .low since =>
    let s1 := advanceTo (since + charNow s) s
    let s2 := modFramer (fun f => { f with rx := .low s1.now }) s1
    match s.framer.mode with
    | .watch => watchCharacter s2
    | .echo => s
    | .hunt => countNoise s2
    | .collect => collectCharacter 0x00#8 false s2
    | .discard => discardCharacter false s2
  | _ => s

/-- BREAK_CHARACTER. -/
def execBreakCharacter (s : State) : Host.Outcome State Fault Refusal := .next (act breakCharacter s)

/-- The effect of RXD having been high for one full bit time after a framing error (R2): the receiver looks for a start edge
again. In COLLECT and DISCARD the gap check has been counting since RXD rose (R17). -/
def receiverRearm (wait : Nat) (s : State) : State :=
  match s.framer.rx with
  | .low _ =>
    let s1 := advanceTo (s.now + wait) s
    let rose := s1.now - Config.bitTime s.line.cfg.lrate
    modFramer (fun f => { f with
      rx := .idle
      gap := if f.mode = .collect ∨ f.mode = .discard then some (rose + s.line.cfg.lgap * charNow s) else f.gap }) s1
  | _ => s

/-- RECEIVER_REARM. -/
def execReceiverRearm (wait : Nat) (s : State) : Host.Outcome State Fault Refusal := .next (act (receiverRearm wait) s)

/-! ## The transmission (R11 to R14) -/

/-- The end of the character with the given number within a transmission, counted from the assertion of DE (R11). -/
def charEnd (x : Transmission) (k : Nat) (s : State) : Nat :=
  x.begun + Config.bitTime s.line.cfg.lrate + (k + 1) * charNow s

/-- The echo of a character is clean: start bit low, the data as sent, stop bit high (R13). -/
def echoClean (sent : Byte) (start : Bool) (data : Byte) (stop : Bool) : Bool :=
  !start && data == sent && stop

/-- Line control takes a contention verdict: in RUNNING and DRAINING the contention count rises by one (R163). -/
def raiseContention (s : State) : State :=
  if s.line.state = .running ∨ s.line.state = .draining then
    { s with line := { s.line with contCount := satInc 7 s.line.contCount } }
  else s

/-- A contention (R14, R163, R164). The framer stops after this character and reports to the engine, which fails the attempt
with CONTENTION, and to line control, which counts it. Below CONTLIM the line continues and both reports are taken; at
CONTLIM the line faults, and the attempt is counted only if the framer's report reaches the engine first. -/
def contention (x : Transmission) (stop engineFirst : Bool) (s : State) : State :=
  let s1 := modFramer (fun f => { f with tx := some { x with contended := true } }) s
  let s2 := raiseContention s1
  if s2.line.contCount < s2.line.cfg.contlim then failAttempt .contention s2
  else if engineFirst then lineFault 1#16 stop (raiseContention (failAttempt .contention s1))
  else lineFault 1#16 stop s2

/-- The effect of the stop-bit sample of a transmitted character, with the echo check on (R13). -/
def echoComparison (start : Bool) (data : Byte) (stop engineFirst : Bool) (s : State) : State :=
  match s.framer.tx with
  | none => s
  | some x =>
    match x.chars[x.compared]? with
    | none => s
    | some sent =>
      if x.echoCheck = true ∧ x.contended = false then
        let s1 := advanceTo (charEnd x x.compared s - halfNow s) s
        if echoClean sent start data stop then
          modFramer (fun f => { f with tx := some { x with compared := x.compared + 1 } }) s1
        else contention x stop engineFirst s1
      else s

/-- ECHO_COMPARISON. -/
def execEchoComparison (start : Bool) (data : Byte) (stop engineFirst : Bool) (s : State) : Host.Outcome State Fault Refusal :=
  .next (act (echoComparison start data stop engineFirst) s)

/-- The receiver as it is when ECHO ends (R13): after a completed character, or with RXD low forming break characters. -/
def afterEcho (rxdHigh : Bool) (t : Nat) : Receiver := if rxdHigh then .idle else .low t

/-- The effect of the end of a contended character (R14): DE drops with no guard, the mode becomes WATCH, and the engine,
line control having answered, goes to its decision (R60). -/
def contentionStop (rxdHigh : Bool) (s : State) : State :=
  match s.framer.tx with
  | none => s
  | some x =>
    if x.contended then
      let s1 := advanceTo (charEnd x x.compared s) s
      decision (modFramer (fun f => { f with
        mode := .watch, driverEnable := false, tx := none, rx := afterEcho rxdHigh s1.now }) s1)
    else s

/-- CONTENTION_STOP. -/
def execContentionStop (rxdHigh : Bool) (s : State) : Host.Outcome State Fault Refusal :=
  .next (act (contentionStop rxdHigh) s)

/-- The clean verdict of a frame (R163): taken in RUNNING and DRAINING, it returns the contention count to 0. -/
def cleanVerdict (s : State) : State :=
  if s.line.state = .running ∨ s.line.state = .draining then { s with line := { s.line with contCount := 0 } } else s

/-- Every character of a transmission has been sent with its echo found clean, or unchecked. -/
def sentWhole (x : Transmission) : Bool := !x.contended && (!x.echoCheck || x.compared == x.chars.length)

/-- The receive mode after the last stop bit of a frame (R10): HUNT, or WATCH after a BROADCAST. -/
def modeAfterFrame (x : Exchange) : RxMode :=
  match x with
  | .broadcast _ => .watch
  | _ => .hunt

/-- The effect of the end of a frame's last stop bit (R11, R12, R53): "frame sent" to the engine, the echo verdict to line
control, and the guard. -/
def frameSent (rxdHigh : Bool) (s : State) : State :=
  match s.framer.tx, s.engine.record with
  | some x, some r =>
    if sentWhole x then
      let s1 := advanceTo (charEnd x (x.chars.length - 1) s) s
      let s2 := if x.echoCheck then cleanVerdict s1 else s1
      withEngineState .guard (modFramer (fun f => { f with
        mode := modeAfterFrame r.exch
        tx := none
        guardEnd := some (s1.now + s.line.cfg.lguard * halfNow s)
        rx := afterEcho rxdHigh s1.now }) s2)
    else s
  | _, _ => s

/-- FRAME_SENT. -/
def execFrameSent (rxdHigh : Bool) (s : State) : Host.Outcome State Fault Refusal := .next (act (frameSent rxdHigh) s)

/-! ## Release (R12, R53, R64) -/

/-- The end of a BROADCAST after its last repeat (R65, R111): the message departs, the number advances, BROADCAST_SENT
carries the number the frame carried. -/
def broadcastEnd (b : BufIx) (s : State) : State :=
  let sent : Event :=
    { code := .broadcastSent, address := 127, id := s.pool.buffers[b].msgId, detail := s.pool.broadcastNum.setWidth 16 }
  endExchange (post sent (departBroadcast b s))

/-- The reply window and the take limit begin, and the reports kept in GUARD are taken in their order (R53, R54). -/
def openWindow (s : State) : State :=
  let w := s.now + s.line.cfg.lreply * charNow s
  s.engine.kept.foldl (fun t p => handleReport p t)
    { s with engine := { s.engine with
      state := .await, windowEnd := some w, takeLimit := some (w + charNow s), kept := [] } }

/-- The effect of release on the exchange (R53, R64). -/
def released (r : InFlight) (s : State) : State :=
  match r.exch with
  | .broadcast b =>
    if r.attempt < repeatCount s.line.cfg.lopt then retry s else broadcastEnd b s
  | _ => openWindow s

/-- The effect of the end of the guard (R12): DE drops and the line is released. -/
def lineRelease (s : State) : State :=
  match s.framer.guardEnd, s.engine.record with
  | some t, some r =>
    released r (modFramer (fun f => { f with driverEnable := false, guardEnd := none }) (advanceTo t s))
  | _, _ => s

/-- LINE_RELEASE. -/
def execLineRelease (s : State) : Host.Outcome State Fault Refusal := .next (act lineRelease s)

/-! ## The gap check and the engine's limits (R17, R54, R58) -/

/-- The effect of the gap check's expiry (R17): in COLLECT the collection is TRUNCATED, in DISCARD the discard ends (R18). A
stopped timer does not expire. -/
def gapExpiry (s : State) : State :=
  match s.framer.gap with
  | none => s
  | some t =>
    let s1 := modFramer (fun f => { f with mode := .watch, gap := none }) (advanceTo t s)
    match s.framer.mode with
    | .collect => engineReport .truncated s1
    | .discard => engineReport .quietAfterDiscard s1
    | _ => s

/-- GAP_EXPIRY. -/
def execGapExpiry (s : State) : Host.Outcome State Fault Refusal := .next (act gapExpiry s)

/-- The engine ends the hunt or the drain: the framer enters WATCH and its gap timing ends (R10, R54, R58). -/
def watchMode (s : State) : State := modFramer (fun f => { f with mode := .watch, gap := none }) s

/-- The effect of the take limit (R54): in AWAIT, with no LEAD taken, the attempt fails with NO_REPLY. -/
def takeLimit (s : State) : State :=
  match s.engine.state, s.engine.takeLimit with
  | .await, some t => decision (watchMode (failAttempt .noReply (advanceTo t s)))
  | _, _ => s

/-- TAKE_LIMIT. -/
def execTakeLimit (s : State) : Host.Outcome State Fault Refusal := .next (act takeLimit s)

/-- The effect of the drain limit (R58): in DRAIN the framer returns to WATCH and the engine goes to its decision. -/
def drainLimit (s : State) : State :=
  match s.engine.state, s.engine.drainLimit with
  | .drain, some t => decision (watchMode (advanceTo t s))
  | _, _ => s

/-- DRAIN_LIMIT. -/
def execDrainLimit (s : State) : Host.Outcome State Fault Refusal := .next (act drainLimit s)

end Sys2Proof.Machine
end

