-- ==== Sys2Proof/Machine/Command.lean ====
section
/-! DEFINITION. The shape of a host access: a command's answer in CRES and CVAL, and what an access leaves on the data lines. -/

namespace Sys2Proof.Machine

/-- A block's answer to a command: result code, returned value, and the state it leaves (R189). -/
structure Answer where
  res : Res
  val : Nat
  st : State

/-- A refusal: the result code, CVAL 0, and the state as it was (R190). -/
def refuse (r : Res) (s : State) : Answer := { res := r, val := 0, st := s }

/-- The port record changed. -/
def modPort (f : Port → Port) (s : State) : State := { s with port := f s.port }

/-- A write of CMD (R189): the code is recorded, the command is handed to its block, and the answer stands in CRES and CVAL. -/
def command (code : Byte) (f : State → Answer) (s : State) : State :=
  modPort (fun p => { p with cmd := code, cres := (f s).res, cval := BitVec.ofNat 8 (f s).val, dataLines := none }) (f s).st

/-- A write access: the part does not drive the data lines in it (R184). -/
def writeAccess (f : State → State) (s : State) : State := modPort (fun p => { p with dataLines := none }) (f s)

/-- A read access: the part drives the data lines with the value read (R184). -/
def readAccess (f : State → Word × State) (s : State) : State :=
  modPort (fun p => { p with dataLines := some (f s).1 }) (f s).2

end Sys2Proof.Machine
end

