-- ==== Sys2Proof/Machine/Inbound.lean ====
section
/-! DEFINITION. The read port: RX_OPEN, RX_RELEASE, reads of RXDATA, and writes of INQTHR (section 6.5). -/

namespace Sys2Proof.Machine

/-- The effect of RX_OPEN (R131). -/
def cmdRxOpen (s : State) : Answer :=
  if s.pool.readPort.isSome then refuse .wrongState s
  else
    match s.pool.inbound with
    | [] => refuse .queueEmpty s
    | b :: rest =>
      { res := .ok, val := s.pool.buffers[b].payload.length,
        st := modPort (fun p => { p with readPtr := 0 })
          { s with pool := { s.pool with inbound := rest, readPort := some b } } }

/-- RX_OPEN (R131). -/
def execRxOpen (s : State) : Host.Outcome State Fault Refusal := .next (act (command 0x30#8 cmdRxOpen) s)

/-- The effect of RX_RELEASE (R134). -/
def cmdRxRelease (s : State) : Answer :=
  match s.pool.readPort with
  | none => refuse .nothingOpen s
  | some _ =>
    { res := .ok, val := 0,
      st := modPort (fun p => { p with readPtr := 0 }) (bufferFreed { s with pool := { s.pool with readPort := none } }) }

/-- RX_RELEASE (R134). -/
def execRxRelease (s : State) : Host.Outcome State Fault Refusal := .next (act (command 0x31#8 cmdRxRelease) s)

/-- The bytes of the open report; none while the read port is empty (R133). -/
def openBytes (s : State) : List Byte :=
  match s.pool.readPort with
  | none => []
  | some b => s.pool.buffers[b].payload

/-- One byte read at the read pointer: none at or past the end of the report (R133). -/
def readByte (s : State) : Option Byte × State :=
  match (openBytes s)[s.port.readPtr]? with
  | some d => (some d, modPort (fun p => { p with readPtr := p.readPtr + 1 }) s)
  | none => (none, s)

/-- A read of RXDATA (R133): one byte, or two in 16-bit mode, a byte past the end reading 0x00, with at most one OVERREAD. -/
def readRxdata (s : State) : Word × State :=
  let (d1, s1) := readByte s
  if s.port.wide then
    let (d2, s2) := readByte s1
    (wordOf (d2.getD 0#8) (d1.getD 0#8), if d1.isSome && d2.isSome then s2 else hostError .overread s2)
  else (byteWord (d1.getD 0#8), if d1.isSome then s1 else hostError .overread s1)

/-- RXDATA_READ (R133). -/
def execRxdataRead (s : State) : Host.Outcome State Fault Refusal := .next (act (readAccess readRxdata) s)

/-- A protocol parameter write (R196): taken in range, otherwise dropped with BAD_VALUE. -/
def writeParam (lo hi : Nat) (v : Byte) (f : Params → Params) (s : State) : State :=
  if lo ≤ v.toNat ∧ v.toNat ≤ hi then { s with params := f s.params } else hostError .badValue s

/-- A write of INQTHR (R135); the inbound-ready level follows it at once (Flags). -/
def writeInqthr (data : Word) (s : State) : State :=
  writeParam 1 24 (lowByte data) (fun p => { p with inqThr := (lowByte data).toNat }) s

/-- INQTHR_WRITE (R135). -/
def execInqthrWrite (data : Word) (s : State) : Host.Outcome State Fault Refusal := .next (act (writeAccess (writeInqthr data)) s)

end Sys2Proof.Machine
end

