-- ==== Sys2Proof/Machine/Line.lean ====
section
/-! DEFINITION. Line control's steps: the line commands, the quiet, babble and pace deadlines, and the line configuration
writes (chapter 8). -/

namespace Sys2Proof.Machine

/-- The line state changed. -/
def withLineState (l : LineState) (s : State) : State := { s with line := { s.line with state := l } }

/-- A line command's answer: CVAL holds the line state code once it has been taken (R189). -/
def lineAnswer (r : Res) (s : State) : Answer := { res := r, val := s.line.state.code, st := s }

/-- The line RUNNING with the contention count 0 (R154). -/
def lineRun (s : State) : State := { s with line := { s.line with state := .running, contCount := 0 } }

/-- The effect of LINE_START, by the line state; a wake in every state (R154). -/
def cmdLineStart (s : State) : Answer :=
  match s.line.state with
  | .stopped => lineAnswer .ok (wake (lineRun s))
  | .running => lineAnswer .ok (wake s)
  | .draining => lineAnswer .ok (wake (withLineState .running s))
  | .faulted => lineAnswer .ok (wake (lineRun s))

/-- LINE_START (R154). -/
def execLineStart (s : State) : Host.Outcome State Fault Refusal := .next (act (command 0x50#8 cmdLineStart) s)

/-- The effect of LINE_HALT (R155). -/
def cmdLineHalt (s : State) : Answer :=
  match s.line.state with
  | .running =>
    if s.engine.state = .idle then
      lineAnswer .ok (post { code := .lineStopped, detail := 1#16 } (withLineState .stopped s))
    else lineAnswer .pending (withLineState .draining s)
  | .draining => lineAnswer .pending s
  | .stopped => lineAnswer .ok s
  | .faulted => lineAnswer .ok s

/-- LINE_HALT (R155). -/
def execLineHalt (s : State) : Host.Outcome State Fault Refusal := .next (act (command 0x51#8 cmdLineHalt) s)

/-- The abort of a line that runs (R157): the exchange abandoned, the quiet request dropped, STOPPED, LINE_STOPPED(ABORT). -/
def abortLine (rxdHigh : Bool) (s : State) : State :=
  let s1 := abandon .abort rxdHigh s
  post { code := .lineStopped, detail := 2#16 } { s1 with line := { s1.line with state := .stopped, quiet := none } }

/-- The effect of LINE_ABORT (R157). -/
def cmdLineAbort (rxdHigh : Bool) (s : State) : Answer :=
  match s.line.state with
  | .running => lineAnswer .ok (abortLine rxdHigh s)
  | .draining => lineAnswer .ok (abortLine rxdHigh s)
  | .stopped => lineAnswer .ok s
  | .faulted => lineAnswer .ok s

/-- LINE_ABORT (R157). -/
def execLineAbort (rxdHigh : Bool) (s : State) : Host.Outcome State Fault Refusal :=
  .next (act (command 0x52#8 (cmdLineAbort rxdHigh)) s)

/-! ## Deadlines -/

/-- The effect of the quiet deadline (R159, R51): quiet is reported and the request ends; the engine in SETTLE_WAIT or
SETTLE begins the transmission. With no request pending nothing happens (R162). -/
def quietDeadline (s : State) : State :=
  match s.line.quiet with
  | none => s
  | some q =>
    let s1 := advanceTo q.quietAt { s with line := { s.line with quiet := none } }
    match s.engine.state with
    | .settleWait => transmit s1
    | .settle => transmit s1
    | _ => s1

/-- QUIET_DEADLINE (R159). -/
def execQuietDeadline (s : State) : Host.Outcome State Fault Refusal := .next (act quietDeadline s)

/-- The effect of the babble deadline (R161): with a request pending the line faults with cause BABBLE. The framer is not in
ECHO then, so the level of RXD plays no part. -/
def babbleDeadline (s : State) : State :=
  match s.line.quiet with
  | none => s
  | some q => lineFault 2#16 true (advanceTo q.babbleAt s)

/-- BABBLE_DEADLINE (R161). -/
def execBabbleDeadline (s : State) : Host.Outcome State Fault Refusal := .next (act babbleDeadline s)

/-- The effect of the pace timer's expiry (R82): it ends PACE_WAIT, which is an arrival (R75). -/
def paceExpiry (s : State) : State :=
  match s.sched.paceTimer with
  | none => s
  | some t =>
    let s1 := advanceTo t { s with sched := { s.sched with paceTimer := none } }
    if s.sched.walk = .paceWait then arrival { s1 with sched := { s1.sched with walk := .walking } } else s1

/-- PACE_EXPIRY (R82). -/
def execPaceExpiry (s : State) : Host.Outcome State Fault Refusal := .next (act paceExpiry s)

/-! ## Line configuration (R165, R166) -/

/-- A line configuration register set to a value in range (R166). -/
def LineConfig.put (r : LineReg) (v : Byte) (c : LineConfig) : LineConfig :=
  match r with
  | .lrate => { c with lrate := v.toNat }
  | .lguard => { c with lguard := v.toNat }
  | .lreply => { c with lreply := v.toNat }
  | .lgap => { c with lgap := v.toNat }
  | .lsettle => { c with lsettle := v.toNat }
  | .lopt => { c with lopt := v }
  | .contlim => { c with contlim := v.toNat }

/-- An LRATE write drops a character in assembly (R3); other registers leave the receiver alone. A break character that is being
timed while RXD stays low is not taken as a character in assembly: the receiver stays as it is, and the next break is timed from
the same start at the new rate (DESIGN CHOICE, log 30). -/
def dropAssembly (r : LineReg) (f : Framer) : Framer :=
  match r, f.rx with
  | .lrate, .assembling _ _ => { f with rx := .idle }
  | _, _ => f

/-- A write of a line configuration register (R165, R166): the lock is judged first, then the range. -/
def writeLineConfig (r : LineReg) (data : Word) (s : State) : State :=
  if s.line.state = .running ∨ s.line.state = .draining then hostError .configLocked s
  else if lineRegInRange r (lowByte data) then
    modFramer (dropAssembly r) { s with line := { s.line with cfg := s.line.cfg.put r (lowByte data) } }
  else hostError .badValue s

/-- LINE_CONFIG_WRITE (R165). -/
def execLineConfigWrite (r : LineReg) (data : Word) (s : State) : Host.Outcome State Fault Refusal :=
  .next (act (writeAccess (writeLineConfig r data)) s)

end Sys2Proof.Machine
end

