-- ==== Sys2Proof/Machine/Outbound.lean ====
section
/-! DEFINITION. The host's outbound commands: staging, commit, discard, CANCEL, and writes of STGDATA (chapter 5). -/

namespace Sys2Proof.Machine

/-- The effect of STAGE_OPEN (R98): the lowest free buffer moves to the staging slot with length 0, if the free count is
above RESERVE. -/
def cmdStageOpen (s : State) : Answer :=
  if s.pool.staged.isSome then refuse .wrongState s
  else if s.pool.freeCount ≤ s.params.reserve then refuse .noBuffer s
  else
    match s.pool.lowestFree with
    | none => refuse .noBuffer s
    | some b =>
      let s1 := modBuffer b (fun x => { x with payload := [] }) s
      { res := .ok, val := b.val,
        st := modPort (fun p => { p with stagePtr := 0 }) { s1 with pool := { s1.pool with staged := some b } } }

/-- STAGE_OPEN (R98). -/
def execStageOpen (s : State) : Host.Outcome State Fault Refusal := .next (act (command 0x20#8 cmdStageOpen) s)

/-- The fields of a committed message (R100). -/
def committed (id : Byte) (b : Buffer) : Buffer :=
  { b with msgId := id, mark := .queued, transmitted := false, busyCount := 0 }

/-- The staged buffer leaves the staging slot with the fields of a commit, and the write pointer returns to 0 (R100). -/
def unstage (b : BufIx) (id : Byte) (s : State) : State :=
  let s1 := modBuffer b (committed id) s
  modPort (fun p => { p with stagePtr := 0 }) { s1 with pool := { s1.pool with staged := none } }

/-- A taken commit to an entry (R100). -/
def commitEntry (i : EntryIx) (b : BufIx) (id : Byte) (s : State) : Answer :=
  { res := .ok, val := s.pool.outbound[i].length + 1,
    st := wake (withOutbound i (s.pool.outbound[i] ++ [b]) (unstage b id s)) }

/-- A taken commit to the broadcast list (R100, R111). -/
def commitBroadcast (b : BufIx) (id : Byte) (s : State) : Answer :=
  let s1 := unstage b id s
  { res := .ok, val := s.pool.broadcast.length + 1,
    st := wake { s1 with pool := { s1.pool with broadcast := s1.pool.broadcast ++ [b] } } }

/-- The effect of STAGE_COMMIT: its tests in order, then the staged buffer joins the destination's tail; a wake (R100). -/
def cmdStageCommit (s : State) : Answer :=
  match s.pool.staged with
  | none => refuse .nothingStaged s
  | some b =>
    if 32 < s.port.carg0.toNat then refuse .badArgument s
    else
      match entryArg s.port.carg0 with
      | none =>
        if Config.broadcastCapacity ≤ s.pool.broadcast.length then refuse .broadcastFull s
        else commitBroadcast b s.port.carg1 s
      | some i =>
        if s.table[i].state = .empty ∨ s.table[i].state = .retiring then refuse .noStation s
        else if s.table[i].state = .lost ∧ s.table[i].holdOnLoss = false then refuse .stationLost s
        else if s.params.maxq ≤ s.pool.outbound[i].length then refuse .stationQueueFull s
        else commitEntry i b s.port.carg1 s

/-- STAGE_COMMIT (R100). -/
def execStageCommit (s : State) : Host.Outcome State Fault Refusal := .next (act (command 0x21#8 cmdStageCommit) s)

/-- The effect of STAGE_DISCARD (R102). -/
def cmdStageDiscard (s : State) : Answer :=
  match s.pool.staged with
  | none => refuse .nothingStaged s
  | some _ =>
    { res := .ok, val := 0,
      st := modPort (fun p => { p with stagePtr := 0 }) (bufferFreed { s with pool := { s.pool with staged := none } }) }

/-- STAGE_DISCARD (R102). -/
def execStageDiscard (s : State) : Host.Outcome State Fault Refusal := .next (act (command 0x22#8 cmdStageDiscard) s)

/-- The oldest message of a list that carries an id (R113). -/
def findMessage (id : Byte) (bs : List BufIx) (s : State) : Option BufIx := bs.find? fun b => s.pool.buffers[b].msgId == id

/-- CANCEL of an entry's message in flight (R115): CANCEL_PENDING and a withdrawal notice; the record remembers that the
target was RETIRING by then (log 7). -/
def cancelInFlight (i : EntryIx) (b : BufIx) (s : State) : State :=
  withdrawalNotice .cancel
    (modRecord (fun r => { r with lateCancel := s.table[i].state == .retiring }) (setMark b .cancelPending s))

/-- CANCEL of the message found on an entry's list, by its mark (R113 to R115). -/
def cancelFound (i : EntryIx) (b : BufIx) (s : State) : Answer :=
  match s.pool.buffers[b].mark with
  | .queued => { res := .ok, val := 0, st := departWith i b .cancelled 1 s }
  | .inFlight => { res := .pending, val := 0, st := cancelInFlight i b s }
  | .cancelPending => { res := .pending, val := 0, st := s }

/-- CANCEL of the message found on the broadcast list, by its mark (R116). With TOO_LATE, CVAL is 0 (DESIGN CHOICE, log 31). -/
def cancelBroadcast (b : BufIx) (s : State) : Answer :=
  if s.pool.buffers[b].mark = .queued then
    { res := .ok, val := 0,
      st := post { code := .cancelled, address := 127, id := s.pool.buffers[b].msgId, detail := 1#16 } (departBroadcast b s) }
  else { res := .tooLate, val := 0, st := s }

/-- The effect of CANCEL (R113). -/
def cmdCancel (s : State) : Answer :=
  if 32 < s.port.carg0.toNat then refuse .badArgument s
  else
    match entryArg s.port.carg0 with
    | none =>
      match findMessage s.port.carg1 s.pool.broadcast s with
      | none => refuse .notFound s
      | some b => cancelBroadcast b s
    | some i =>
      if s.table[i].state = .empty then refuse .badEntry s
      else
        match findMessage s.port.carg1 s.pool.outbound[i] s with
        | none => refuse .notFound s
        | some b => cancelFound i b s

/-- CANCEL (R113). -/
def execCancel (s : State) : Host.Outcome State Fault Refusal := .next (act (command 0x23#8 cmdCancel) s)

/-- One byte appended to the staged buffer, if it has room; false if the byte is dropped (R99). -/
def appendByte (b : BufIx) (d : Byte) (s : State) : Bool × State :=
  if s.pool.buffers[b].payload.length < Config.maxPayload then
    (true, modPort (fun p => { p with stagePtr := p.stagePtr + 1 })
      (modBuffer b (fun x => { x with payload := x.payload ++ [d] }) s))
  else (false, s)

/-- A write of STGDATA (R99): one byte, or low then high in 16-bit mode; at most one host error for the access. -/
def writeStgdata (data : Word) (s : State) : State :=
  match s.pool.staged with
  | none => hostError .noStage s
  | some b =>
    let (ok1, s1) := appendByte b (lowByte data) s
    if s.port.wide then
      let (ok2, s2) := appendByte b (highByte data) s1
      if ok1 && ok2 then s2 else hostError .overfill s2
    else if ok1 then s1 else hostError .overfill s1

/-- STGDATA_WRITE (R99). -/
def execStgdataWrite (data : Word) (s : State) : Host.Outcome State Fault Refusal := .next (act (writeAccess (writeStgdata data)) s)

end Sys2Proof.Machine
end

