-- ==== Sys2Proof/Machine/Resets.lean ====
section
/-! DEFINITION. The three resets and RESET# low (R168, R197, R198 and each block's own reset rule). -/

namespace Sys2Proof.Machine

/-- The effect of the rise of RESET# (R197): every block at its pin-reset values, the width sampled from BUSW. The model's
clock and the commands that wait are no part of the part. -/
def pinReset (busw : Bool) (s : State) : State := { State.powerOn busw with now := s.now, pending := s.pending }

/-- PIN_RESET (R197). It is taken whether or not RESET# had been seen low. -/
def execPinReset (busw : Bool) (s : State) : Host.Outcome State Fault Refusal := .next (pinReset busw s)

/-- The effect of RESET# going low (R197): the framer stops with DE low, TXD high and no character in assembly, and the part
is held in reset; the other blocks take their values at the rise. -/
def resetAsserted (s : State) : State :=
  modPort (fun p => { p with inReset := true, dataLines := none }) { s with framer := {} }

/-- RESET_ASSERTED (R197). -/
def execResetAsserted (s : State) : Host.Outcome State Fault Refusal := .next (resetAsserted s)

/-- The event queue as a reset command leaves it: emptied, its lost count 0, RESET_DONE queued, the view empty (R169, R178). -/
def resetQueue (filter : Byte) (detail : Word) : EventQueue :=
  { records := [{ code := .resetDone, detail := detail }], filter := filter }

/-- The effect of DEVICE_RESET (R198): the pin-reset values with the bus width kept, and RESET_DONE(DEVICE). -/
def cmdDeviceReset (s : State) : Answer :=
  { res := .ok, val := 0, st := { pinReset s.port.wide s with events := resetQueue 0x0F#8 2#16 } }

/-- DEVICE_RESET (R198). -/
def execDeviceReset (s : State) : Host.Outcome State Fault Refusal := .next (act (command 0x5F#8 cmdDeviceReset) s)

/-- The head of an entry's outbound list had been transmitted (R46, R118). -/
def headSent (bs : List BufIx) (s : State) : Bool :=
  match bs with
  | [] => false
  | b :: _ => s.pool.buffers[b].transmitted

/-- An entry after LINE_RESET (R46). -/
def lineResetEntry (sent : Bool) (e : Entry) : Entry :=
  match e.state with
  | .empty => Entry.vacant
  | .retiring => Entry.vacant
  | st =>
    { zeroCounters e with
      state := if st = .parked then .parked else .new
      miss := 0
      backoff := 0
      inFlight := false
      urgentListed := false
      nextNum := if sent then e.nextNum + 1#3 else e.nextNum }
where
  /-- The three counters at 0. -/
  zeroCounters (e : Entry) : Entry := { e with goodCount := 0, failCount := 0, dupCount := 0 }

/-- The blocks after LINE_RESET (R168 and the rules it names). -/
def lineReset (s : State) : State :=
  { s with
    table := Vector.ofFn fun i => lineResetEntry (headSent s.pool.outbound[i] s) s.table[i]
    pool := { Pool.allFree with
      broadcastNum := if headSent s.pool.broadcast s then s.pool.broadcastNum + 1#3 else s.pool.broadcastNum }
    sched := { Scheduler.powerOn with ring := s.sched.ring }
    sweep := {}
    line := { cfg := s.line.cfg }
    framer := {}
    engine := {}
    events := resetQueue s.events.filter 1#16
    port := { s.port with
      stagePtr := 0
      readPtr := 0
      hold := none
      latch := { flag := false, first := s.port.latch.first, count := 0 } } }

/-- The effect of LINE_RESET (R168): CVAL 0, the line being STOPPED. -/
def cmdLineReset (s : State) : Answer := { res := .ok, val := 0, st := lineReset s }

/-- LINE_RESET (R168). -/
def execLineReset (s : State) : Host.Outcome State Fault Refusal := .next (act (command 0x53#8 cmdLineReset) s)

end Sys2Proof.Machine
end

