-- ==== Sys2Proof/Machine/SweepCommands.lean ====
section
/-! DEFINITION. The sweep commands SWEEP_START and SWEEP_STOP (sections 7.2 and 7.6). -/

namespace Sys2Proof.Machine

/-- A sweep command's answer: CVAL holds the sweep state code after the command, whatever the result (R189). -/
def sweepAnswer (r : Res) (s : State) : Answer := { res := r, val := s.sweep.state.code, st := s }

/-- The effect of SWEEP_START: its tests in order, then the sweep record is set; a wake (R139). -/
def cmdSweepStart (s : State) : Answer :=
  let first := s.port.carg0.toNat
  let last := s.port.carg1.toNat
  let auto := s.port.carg2.toNat
  if first = 0 ∨ 127 ≤ last ∨ last < first ∨ 1 < auto then sweepAnswer .badArgument s
  else if s.sweep.state ≠ .idle then sweepAnswer .wrongState s
  else
    sweepAnswer .ok
      (wake (withSweep { state := .active, cursor := first, last := last, autoAdd := auto == 1, outstanding := false } s))

/-- SWEEP_START (R139). -/
def execSweepStart (s : State) : Host.Outcome State Fault Refusal := .next (act (command 0x40#8 cmdSweepStart) s)

/-- The effect of SWEEP_STOP, by the sweep's state (R146). -/
def cmdSweepStop (s : State) : Answer :=
  match s.sweep.state with
  | .idle => sweepAnswer .wrongState s
  | .active =>
    if s.sweep.outstanding then sweepAnswer .pending (withSweep { s.sweep with state := .stopping } s)
    else sweepAnswer .ok (sweepStopped s)
  | .stopping => sweepAnswer .pending s

/-- SWEEP_STOP (R146). -/
def execSweepStop (s : State) : Host.Outcome State Fault Refusal := .next (act (command 0x41#8 cmdSweepStop) s)

end Sys2Proof.Machine
end

