-- ==== Sys2Proof/Machine/TableCommands.lean ====
section
/-! DEFINITION. The host's table commands ADD, REMOVE, PARK, RESUME, CLEAR_COUNTERS (chapter 2) and URGENT (R91). -/

namespace Sys2Proof.Machine

/-- The effect of ADD: its tests in order, then the lowest EMPTY entry is occupied; a wake (R35, R89). -/
def cmdAdd (s : State) : Answer :=
  let a := s.port.carg0.toNat
  let o := s.port.carg1
  if a = 0 ∨ 127 ≤ a then refuse .badAddress s
  else if 3 < o.toNat then refuse .badArgument s
  else if (holderOf a s).isSome then refuse .duplicateAddress s
  else
    match lowestEmpty s with
    | none => refuse .tableFull s
    | some i => { res := .ok, val := i.val, st := wake (withEntry i (addedEntry a (o.getLsbD 0) (o.getLsbD 1)) s) }

/-- ADD (R35). -/
def execAdd (s : State) : Host.Outcome State Fault Refusal := .next (act (command 0x10#8 cmdAdd) s)

/-- REMOVE with no exchange to the entry in flight (R38). -/
def removeNow (i : EntryIx) (s : State) : State :=
  retire i (dropUrgent i (flush i .cancelled (fun _ => 2) s.pool.outbound[i] s))

/-- REMOVE with an exchange to the entry in flight (R39): RETIRING, the queued messages flushed, off the urgent list, and a
withdrawal notice to the engine (R70). -/
def removeLater (i : EntryIx) (s : State) : State :=
  let s1 := modEntry i (fun e => { e with state := .retiring }) s
  withdrawalNotice .retire (dropUrgent i (flush i .cancelled (fun _ => 2) (queuedMessages i s1) s1))

/-- The effect of REMOVE (R38, R39). -/
def cmdRemove (s : State) : Answer :=
  match entryArg s.port.carg0 with
  | none => refuse .badEntry s
  | some i =>
    if s.table[i].state = .empty then refuse .badEntry s
    else if s.table[i].state = .retiring then refuse .wrongState s
    else if s.table[i].inFlight then { res := .pending, val := 0, st := removeLater i s }
    else { res := .ok, val := 0, st := removeNow i s }

/-- REMOVE (R38). -/
def execRemove (s : State) : Host.Outcome State Fault Refusal := .next (act (command 0x11#8 cmdRemove) s)

/-- The effect of PARK (R42). -/
def cmdPark (s : State) : Answer :=
  match entryArg s.port.carg0 with
  | none => refuse .badEntry s
  | some i =>
    if s.table[i].state = .empty then refuse .badEntry s
    else if s.table[i].state = .parked ∨ s.table[i].state = .retiring then refuse .wrongState s
    else { res := .ok, val := 0, st := dropUrgent i (modEntry i (fun e => { e with state := .parked }) s) }

/-- PARK (R42). -/
def execPark (s : State) : Host.Outcome State Fault Refusal := .next (act (command 0x12#8 cmdPark) s)

/-- The effect of RESUME: NEW with miss count and busy backoff 0; a wake (R43, R89). -/
def cmdResume (s : State) : Answer :=
  match entryArg s.port.carg0 with
  | none => refuse .badEntry s
  | some i =>
    if s.table[i].state = .empty then refuse .badEntry s
    else if s.table[i].state = .parked then
      { res := .ok, val := 0, st := wake (modEntry i (fun e => { e with state := .new, miss := 0, backoff := 0 }) s) }
    else refuse .wrongState s

/-- RESUME (R43). -/
def execResume (s : State) : Host.Outcome State Fault Refusal := .next (act (command 0x13#8 cmdResume) s)

/-- The effect of URGENT; a result of OK is a wake (R91). -/
def cmdUrgent (s : State) : Answer :=
  match entryArg s.port.carg0 with
  | none => refuse .badEntry s
  | some i =>
    if s.table[i].state = .empty then refuse .badEntry s
    else if s.table[i].state = .parked ∨ s.table[i].state = .retiring then refuse .wrongState s
    else if s.sched.urgent.contains i then { res := .ok, val := s.sched.urgent.length, st := wake s }
    else if Config.urgentCapacity ≤ s.sched.urgent.length then refuse .listFull s
    else { res := .ok, val := s.sched.urgent.length + 1, st := wake (listUrgent i s) }

/-- URGENT (R91). -/
def execUrgent (s : State) : Host.Outcome State Fault Refusal := .next (act (command 0x14#8 cmdUrgent) s)

/-- The three counters of an entry at 0 (R44). -/
def zeroCounters (e : Entry) : Entry := { e with goodCount := 0, failCount := 0, dupCount := 0 }

/-- CLEAR_COUNTERS for every occupied entry that is not RETIRING (R44). -/
def clearAll (s : State) : State :=
  { s with table := s.table.map fun e => if e.state = .empty ∨ e.state = .retiring then e else zeroCounters e }

/-- The effect of CLEAR_COUNTERS (R44). -/
def cmdClearCounters (s : State) : Answer :=
  if s.port.carg0.toNat = 32 then { res := .ok, val := 0, st := clearAll s }
  else
    match entryArg s.port.carg0 with
    | none => refuse .badEntry s
    | some i =>
      if s.table[i].state = .empty then refuse .badEntry s
      else if s.table[i].state = .retiring then refuse .wrongState s
      else { res := .ok, val := 0, st := modEntry i zeroCounters s }

/-- CLEAR_COUNTERS (R44). -/
def execClearCounters (s : State) : Host.Outcome State Fault Refusal := .next (act (command 0x15#8 cmdClearCounters) s)

end Sys2Proof.Machine
end

