-- ==== Sys2Proof/Machine/HostPort.lean ====
section
/-! DEFINITION. The register window: reads and writes of its registers and ports, the event queue's pop, the host-error latch
and the interrupt enables (chapters 9 and 10). -/

namespace Sys2Proof.Machine

/-! ## The event queue's pop (R175, R177) -/

/-- The record that a pop places at the tail for the postings lost (R175). -/
def lostRecord (n : Nat) : Event := { code := .eventsLost, detail := BitVec.ofNat 16 n }

/-- The queue after its head has been taken (R175, R177, R178). -/
def popped (e : Event) (rest : List Event) (q : EventQueue) : EventQueue :=
  if q.lost = 0 then { q with records := rest, view := some e }
  else { q with records := rest ++ [lostRecord q.lost], lost := 0, view := some e }

/-- A read of EVPOP (R177): the head's code, or NONE with nothing changed. -/
def readEvpop (s : State) : Word × State :=
  match s.events.records with
  | [] => (0#16, s)
  | e :: rest => (byteWord e.code.code, { s with events := popped e rest s.events })

/-- EVPOP_READ (R177). -/
def execEvpopRead (s : State) : Host.Outcome State Fault Refusal := .next (act (readAccess readEvpop) s)

/-! ## The 16-bit registers (R186) and the window (R193, R194) -/

/-- What the window's selection holds; 0 out of range (R193). -/
def windowValue (s : State) : Word :=
  match selection s.port with
  | .field i f => fieldValue s.table[i] s.pool.outbound[i].length f
  | .slot k => byteWord (entryByte s.sched.ring[k])
  | .outOfRange => 0#16

/-- EVDETAIL of the event view (R178). -/
def viewDetail (v : Option Event) : Word :=
  match v with
  | none => 0#16
  | some e => e.detail

/-- The value of a 16-bit register (R186). -/
def wideValue (r : WideReg) (s : State) : Word :=
  match r with
  | .windata => windowValue s
  | .evdetail => viewDetail s.events.view
  | .passcnt => s.sched.passCount
  | .noisecnt => BitVec.ofNat 16 s.line.noise
  | .straycnt => BitVec.ofNat 16 s.line.stray

/-- An access of WINDATA whose selection is out of range raises BAD_INDEX (R193); other registers raise nothing. -/
def checkIndex (r : WideReg) (s : State) : State :=
  match r with
  | .windata =>
    match selection s.port with
    | .outOfRange => hostError .badIndex s
    | _ => s
  | _ => s

/-- A read of the lower address of a 16-bit register (R186): the low byte, or the whole value in 16-bit mode; the read hold
takes the high byte with the register's name. -/
def readLower (r : WideReg) (s : State) : Word × State :=
  let v := wideValue r s
  (if s.port.wide then v else byteWord (lowByte v),
    modPort (fun p => { p with hold := some (r, highByte v) }) (checkIndex r s))

/-- A read of the upper address (R186): the held byte, which empties the hold, if it names this register; otherwise the high
byte as it stands (DEDUCED, log 8, for WINDATA out of range). -/
def readUpper (r : WideReg) (s : State) : Word × State :=
  match s.port.hold with
  | some (q, b) =>
    if q = r then (byteWord b, modPort (fun p => { p with hold := none }) s)
    else (byteWord (highByte (wideValue r s)), checkIndex r s)
  | none => (byteWord (highByte (wideValue r s)), checkIndex r s)

/-- WINDATA_READ: a read of its lower address (R193). -/
def execWindataRead (s : State) : Host.Outcome State Fault Refusal := .next (act (readAccess (readLower .windata)) s)

/-- A read of either address of a 16-bit register (R186). -/
def readWide (r : WideReg) (upper : Bool) (s : State) : Word × State := if upper then readUpper r s else readLower r s

/-- WIDE_REGISTER_READ (R186). -/
def execWideRegisterRead (r : WideReg) (upper : Bool) (s : State) : Host.Outcome State Fault Refusal :=
  .next (act (readAccess (readWide r upper)) s)

/-- The options of an entry that the host may write (R24, R192). -/
def putOption (f : EntryField) (v : Bool) (e : Entry) : Option Entry :=
  match f with
  | .holdOnLoss => some { e with holdOnLoss := v }
  | .urgentOnMore => some { e with urgentOnMore := v }
  | _ => none

/-- A ring value the host may write: 0 to 31, or 0xFF for empty (R79, R194). -/
def ringValue (v : Word) : Option (Option EntryIx) :=
  if v = 0xFF#16 then some none
  else if h : v.toNat < 32 then some (some ⟨v.toNat, h⟩)
  else none

/-- A write of the lower address of WINDATA, judged in the order of R194. A ring write that is taken is a wake (R89). -/
def writeWindata (data : Word) (s : State) : State :=
  let v := windataValue s.port.wide data
  match selection s.port with
  | .outOfRange => hostError .badIndex s
  | .field i f =>
    match putOption f (v == 1#16) s.table[i] with
    | none => hostError .readOnly s
    | some e =>
      if s.table[i].state = .empty then hostError .readOnly s
      else if 1 < v.toNat then hostError .badValue s
      else withEntry i e s
  | .slot k =>
    match ringValue v with
    | none => hostError .badValue s
    | some x => wake { s with sched := { s.sched with ring := s.sched.ring.set k x } }

/-- WINDATA_WRITE (R194). -/
def execWindataWrite (data : Word) (s : State) : Host.Outcome State Fault Refusal := .next (act (writeAccess (writeWindata data)) s)

/-! ## The latch, the enables, the filter and RINGLEN -/

/-- A write of HERR (R182): bit 7 clears the flag and the count; the first code is kept. -/
def writeHerr (data : Word) (s : State) : State :=
  if (lowByte data).getLsbD 7 then
    modPort (fun p => { p with latch := { p.latch with flag := false, count := 0 } }) s
  else s

/-- HERR_WRITE (R182). -/
def execHerrWrite (data : Word) (s : State) : Host.Outcome State Fault Refusal := .next (act (writeAccess (writeHerr data)) s)

/-- A write of INTSET (R180). -/
def writeIntset (data : Word) (s : State) : State :=
  if (lowByte data).toNat < 8 then modPort (fun p => { p with mask := p.mask ||| (lowByte data).setWidth 3 }) s
  else hostError .badValue s

/-- INTSET_WRITE (R180). -/
def execIntsetWrite (data : Word) (s : State) : Host.Outcome State Fault Refusal := .next (act (writeAccess (writeIntset data)) s)

/-- A write of INTCLR (R180). -/
def writeIntclr (data : Word) (s : State) : State :=
  if (lowByte data).toNat < 8 then modPort (fun p => { p with mask := p.mask &&& ~~~((lowByte data).setWidth 3) }) s
  else hostError .badValue s

/-- INTCLR_WRITE (R180). -/
def execIntclrWrite (data : Word) (s : State) : Host.Outcome State Fault Refusal := .next (act (writeAccess (writeIntclr data)) s)

/-- A write of EVFILTER (R173). -/
def writeEvfilter (data : Word) (s : State) : State :=
  if (lowByte data).toNat < 16 then { s with events := { s.events with filter := lowByte data } }
  else hostError .badValue s

/-- EVFILTER_WRITE (R173). -/
def execEvfilterWrite (data : Word) (s : State) : Host.Outcome State Fault Refusal :=
  .next (act (writeAccess (writeEvfilter data)) s)

/-- A write of RINGLEN (R80): taken from 1 to 64, and then a wake (R89). -/
def writeRinglen (data : Word) (s : State) : State :=
  let v := (lowByte data).toNat
  if 1 ≤ v ∧ v ≤ 64 then wake { s with params := { s.params with ringLen := v } } else hostError .badValue s

/-- RINGLEN_WRITE (R80). -/
def execRinglenWrite (data : Word) (s : State) : Host.Outcome State Fault Refusal := .next (act (writeAccess (writeRinglen data)) s)

/-! ## Writes of CMD and of the other registers (R188 to R191, R196) -/

/-- A write of CMD with any code (R189, R190): a listed code is its command (RXD being high if LINE_ABORT ends ECHO), and
every other code is answered UNKNOWN_COMMAND with a host error. -/
def writeCmd (code : Byte) (s : State) : State :=
  match code.toNat with
  | 0x10 => command code cmdAdd s
  | 0x11 => command code cmdRemove s
  | 0x12 => command code cmdPark s
  | 0x13 => command code cmdResume s
  | 0x14 => command code cmdUrgent s
  | 0x15 => command code cmdClearCounters s
  | 0x20 => command code cmdStageOpen s
  | 0x21 => command code cmdStageCommit s
  | 0x22 => command code cmdStageDiscard s
  | 0x23 => command code cmdCancel s
  | 0x30 => command code cmdRxOpen s
  | 0x31 => command code cmdRxRelease s
  | 0x40 => command code cmdSweepStart s
  | 0x41 => command code cmdSweepStop s
  | 0x50 => command code cmdLineStart s
  | 0x51 => command code cmdLineHalt s
  | 0x52 => command code (cmdLineAbort true) s
  | 0x53 => command code cmdLineReset s
  | 0x5F => command code cmdDeviceReset s
  | _ => command code (fun t => { res := .unknownCommand, val := 0, st := hostError .unknownCommand t }) s

/-- UNKNOWN_COMMAND (R190). -/
def execUnknownCommand (code : Byte) (s : State) : Host.Outcome State Fault Refusal := .next (act (writeCmd code) s)

/-- A write of one byte address (R188), by the access type and rule of the register map (section 10.8). -/
def writeRegister (addr : BitVec 6) (data : Word) (s : State) : State :=
  let v := lowByte data
  match addr.toNat with
  | 0x01 => writeCmd v s
  | 0x02 => modPort (fun p => { p with carg0 := v }) s
  | 0x03 => modPort (fun p => { p with carg1 := v }) s
  | 0x04 => modPort (fun p => { p with carg2 := v }) s
  | 0x05 => modPort (fun p => { p with carg3 := v }) s
  | 0x08 => if v.toNat < 2 then modPort (fun p => { p with winsel := v }) s else hostError .badValue s
  | 0x09 => modPort (fun p => { p with winidx := v }) s
  | 0x0A => modPort (fun p => { p with winfld := v }) s
  | 0x0B => writeHerr data s
  | 0x0C => writeWindata data s
  | 0x0E => writeStgdata data s
  | 0x19 => writeEvfilter data s
  | 0x1A => writeIntset data s
  | 0x1B => writeIntclr data s
  | 0x1F => writeInqthr data s
  | 0x25 => writeRinglen data s
  | 0x29 => writeParam 0 255 v (fun p => { p with pace := v.toNat }) s
  | 0x2A => writeParam 1 15 v (fun p => { p with recover := v.toNat }) s
  | 0x2B => writeParam 0 7 v (fun p => { p with retries := v.toNat }) s
  | 0x2C => writeParam 1 15 v (fun p => { p with lostLim := v.toNat }) s
  | 0x2D => writeParam 1 15 v (fun p => { p with busyLim := v.toNat }) s
  | 0x2E => writeParam 1 15 v (fun p => { p with backoff := v.toNat }) s
  | 0x2F => writeParam 1 8 v (fun p => { p with maxq := v.toNat }) s
  | 0x30 => writeParam 0 8 v (fun p => { p with reserve := v.toNat }) s
  | 0x31 => writeLineConfig .lrate data s
  | 0x32 => writeLineConfig .lguard data s
  | 0x33 => writeLineConfig .lreply data s
  | 0x34 => writeLineConfig .lgap data s
  | 0x35 => writeLineConfig .lsettle data s
  | 0x36 => writeLineConfig .lopt data s
  | 0x37 => writeLineConfig .contlim data s
  | _ => hostError .readOnly s

/-- REGISTER_WRITE (R188). -/
def execRegisterWrite (addr : BitVec 6) (data : Word) (s : State) : Host.Outcome State Fault Refusal :=
  .next (act (writeAccess (writeRegister addr data)) s)

/-- DROPPED_ACCESS (R184): neither a read nor a write, no host error, the data lines undriven. -/
def execDroppedAccess (s : State) : Host.Outcome State Fault Refusal := .next (act (writeAccess id) s)

/-! ## What a read returns (R188, R195, section 10.8) -/

/-- A field of the event view, its empty value while no record has been popped (R178). -/
def viewField (f : Event → Byte) (none' : Byte) (v : Option Event) : Byte :=
  match v with
  | none => none'
  | some e => f e

/-- A field of the report in the read port, its empty value while the port is empty (R132). -/
def rxField (f : Buffer → Byte) (none' : Byte) (p : Pool) : Byte :=
  match p.readPort with
  | none => none'
  | some b => f p.buffers[b]

/-- A count as a register byte. -/
def natByte (n : Nat) : Byte := BitVec.ofNat 8 n

/-- The value of each byte address of the register map as it stands, before any side effect of a read (section 10.8). The
port RXDATA gives the byte at the read pointer, EVPOP the code at the head of the queue, and the upper address of a 16-bit
register its high byte as it stands. Reads of registers without a row of the table change nothing (R188). -/
def registerValue (addr : BitVec 6) (s : State) : Byte :=
  match addr.toNat with
  | 0x00 => statusByte s
  | 0x01 => s.port.cmd
  | 0x02 => s.port.carg0
  | 0x03 => s.port.carg1
  | 0x04 => s.port.carg2
  | 0x05 => s.port.carg3
  | 0x06 => natByte s.port.cres.code
  | 0x07 => s.port.cval
  | 0x08 => s.port.winsel
  | 0x09 => s.port.winidx
  | 0x0A => s.port.winfld
  | 0x0B => herrByte s.port.latch
  | 0x0C => lowByte (windowValue s)
  | 0x0D => highByte (windowValue s)
  | 0x0E => natByte s.port.stagePtr
  | 0x0F => (readByte s).1.getD 0#8
  | 0x10 => viewField (fun e => e.code.code) 0#8 s.events.records.head?
  | 0x11 => viewField (fun e => e.code.code) 0#8 s.events.view
  | 0x12 => viewField (fun e => entryByte e.entry) 0xFF#8 s.events.view
  | 0x13 => viewField (fun e => natByte e.address) 0#8 s.events.view
  | 0x14 => lowByte (viewDetail s.events.view)
  | 0x15 => highByte (viewDetail s.events.view)
  | 0x16 => viewField (fun e => e.id) 0#8 s.events.view
  | 0x17 => natByte s.events.records.length
  | 0x18 => natByte s.events.lost
  | 0x19 => s.events.filter
  | 0x1A => s.port.mask.setWidth 8
  | 0x1B => s.port.mask.setWidth 8
  | 0x1C => natByte s.port.latch.count
  | 0x1D => natByte s.pool.freeCount
  | 0x1E => natByte s.pool.inbound.length
  | 0x1F => natByte s.params.inqThr
  | 0x20 => rxField (fun b => natByte b.srcEntry.val) 0xFF#8 s.pool
  | 0x21 => rxField (fun b => natByte b.srcAddr) 0#8 s.pool
  | 0x22 => rxField (fun b => b.reportNum.setWidth 8) 0xFF#8 s.pool
  | 0x23 => rxField (fun b => natByte b.payload.length) 0#8 s.pool
  | 0x24 => rxField (fun b => natByte (bit b.packed)) 0#8 s.pool
  | 0x25 => natByte s.params.ringLen
  | 0x26 => lowByte s.sched.passCount
  | 0x27 => highByte s.sched.passCount
  | 0x28 => natByte s.sched.pointer.val
  | 0x29 => natByte s.params.pace
  | 0x2A => natByte s.params.recover
  | 0x2B => natByte s.params.retries
  | 0x2C => natByte s.params.lostLim
  | 0x2D => natByte s.params.busyLim
  | 0x2E => natByte s.params.backoff
  | 0x2F => natByte s.params.maxq
  | 0x30 => natByte s.params.reserve
  | 0x31 => natByte s.line.cfg.lrate
  | 0x32 => natByte s.line.cfg.lguard
  | 0x33 => natByte s.line.cfg.lreply
  | 0x34 => natByte s.line.cfg.lgap
  | 0x35 => natByte s.line.cfg.lsettle
  | 0x36 => s.line.cfg.lopt
  | 0x37 => natByte s.line.cfg.contlim
  | 0x38 => natByte s.line.contCount
  | 0x39 => natByte s.sweep.cursor
  | 0x3A => lowByte (BitVec.ofNat 16 s.line.noise)
  | 0x3B => highByte (BitVec.ofNat 16 s.line.noise)
  | 0x3C => lowByte (BitVec.ofNat 16 s.line.stray)
  | 0x3D => highByte (BitVec.ofNat 16 s.line.stray)
  | 0x3E => natByte s.sweep.last
  | _ => natByte (bit s.sweep.autoAdd)

/-- A read of a byte address (R184 to R188): the word that the part drives on its data lines, and the state the read leaves. The
addresses of the 16-bit registers and the two ports that move take their own rule; every other address gives its byte in D7-D0
with 0x00 above (R185; STGDATA: R187) and changes nothing. -/
def readRegister (addr : BitVec 6) (s : State) : Word × State :=
  match addr.toNat with
  | 0x0C => readWide .windata false s
  | 0x0D => readWide .windata true s
  | 0x0F => readRxdata s
  | 0x10 => readEvpop s
  | 0x14 => readWide .evdetail false s
  | 0x15 => readWide .evdetail true s
  | 0x26 => readWide .passcnt false s
  | 0x27 => readWide .passcnt true s
  | 0x3A => readWide .noisecnt false s
  | 0x3B => readWide .noisecnt true s
  | 0x3C => readWide .straycnt false s
  | 0x3D => readWide .straycnt true s
  | _ => (byteWord (registerValue addr s), s)

/-- A read access of the host bus at any of the 64 addresses (R184), ignored in reset (R197). The reads that the table has rows for
are commands; a read of any other address has no row, so the host's look at it is this operation and not a step (log 25). -/
def busRead (addr : BitVec 6) (s : State) : State := act (readAccess (readRegister addr)) s

end Sys2Proof.Machine
end

