-- ==== Sys2Proof/Machine/Dispatch.lean ====
section
/-! DEFINITION. One arm per command: which meaning each runs. -/

namespace Sys2Proof.Machine

def exec (i : Instr) (s : State) : Host.Outcome State Fault Refusal :=
  match i with
  | .pinReset busw => Sys2Proof.Machine.execPinReset busw s
  | .add => Sys2Proof.Machine.execAdd s
  | .remove => Sys2Proof.Machine.execRemove s
  | .park => Sys2Proof.Machine.execPark s
  | .resume => Sys2Proof.Machine.execResume s
  | .urgent => Sys2Proof.Machine.execUrgent s
  | .clearCounters => Sys2Proof.Machine.execClearCounters s
  | .stageOpen => Sys2Proof.Machine.execStageOpen s
  | .stageCommit => Sys2Proof.Machine.execStageCommit s
  | .stageDiscard => Sys2Proof.Machine.execStageDiscard s
  | .cancel => Sys2Proof.Machine.execCancel s
  | .rxOpen => Sys2Proof.Machine.execRxOpen s
  | .rxRelease => Sys2Proof.Machine.execRxRelease s
  | .sweepStart => Sys2Proof.Machine.execSweepStart s
  | .sweepStop => Sys2Proof.Machine.execSweepStop s
  | .lineStart => Sys2Proof.Machine.execLineStart s
  | .lineHalt => Sys2Proof.Machine.execLineHalt s
  | .lineAbort rxdHigh => Sys2Proof.Machine.execLineAbort rxdHigh s
  | .lineReset => Sys2Proof.Machine.execLineReset s
  | .deviceReset => Sys2Proof.Machine.execDeviceReset s
  | .unknownCommand code => Sys2Proof.Machine.execUnknownCommand code s
  | .stgdataWrite data => Sys2Proof.Machine.execStgdataWrite data s
  | .rxdataRead => Sys2Proof.Machine.execRxdataRead s
  | .evpopRead => Sys2Proof.Machine.execEvpopRead s
  | .windataRead => Sys2Proof.Machine.execWindataRead s
  | .windataWrite data => Sys2Proof.Machine.execWindataWrite data s
  | .wideRegisterRead reg upper => Sys2Proof.Machine.execWideRegisterRead reg upper s
  | .herrWrite data => Sys2Proof.Machine.execHerrWrite data s
  | .intsetWrite data => Sys2Proof.Machine.execIntsetWrite data s
  | .intclrWrite data => Sys2Proof.Machine.execIntclrWrite data s
  | .lineConfigWrite reg data => Sys2Proof.Machine.execLineConfigWrite reg data s
  | .ringlenWrite data => Sys2Proof.Machine.execRinglenWrite data s
  | .inqthrWrite data => Sys2Proof.Machine.execInqthrWrite data s
  | .evfilterWrite data => Sys2Proof.Machine.execEvfilterWrite data s
  | .registerWrite addr data => Sys2Proof.Machine.execRegisterWrite addr data s
  | .droppedAccess => Sys2Proof.Machine.execDroppedAccess s
  | .startEdgeCheck rxdHigh => Sys2Proof.Machine.execStartEdgeCheck rxdHigh s
  | .strayCharacter data stop => Sys2Proof.Machine.execStrayCharacter data stop s
  | .huntCharacter data stop => Sys2Proof.Machine.execHuntCharacter data stop s
  | .collectCharacter data stop => Sys2Proof.Machine.execCollectCharacter data stop s
  | .discardCharacter data stop => Sys2Proof.Machine.execDiscardCharacter data stop s
  | .breakCharacter => Sys2Proof.Machine.execBreakCharacter s
  | .echoComparison start data stop engineFirst => Sys2Proof.Machine.execEchoComparison start data stop engineFirst s
  | .contentionStop rxdHigh => Sys2Proof.Machine.execContentionStop rxdHigh s
  | .frameSent rxdHigh => Sys2Proof.Machine.execFrameSent rxdHigh s
  | .lineRelease => Sys2Proof.Machine.execLineRelease s
  | .gapExpiry => Sys2Proof.Machine.execGapExpiry s
  | .takeLimit => Sys2Proof.Machine.execTakeLimit s
  | .drainLimit => Sys2Proof.Machine.execDrainLimit s
  | .quietDeadline => Sys2Proof.Machine.execQuietDeadline s
  | .babbleDeadline => Sys2Proof.Machine.execBabbleDeadline s
  | .paceExpiry => Sys2Proof.Machine.execPaceExpiry s
  | .resetAsserted => Sys2Proof.Machine.execResetAsserted s
  | .startEdge wait => Sys2Proof.Machine.execStartEdge wait s
  | .receiverRearm wait => Sys2Proof.Machine.execReceiverRearm wait s

end Sys2Proof.Machine
end

