-- ==== Sys2Proof/Machine/Step.lean ====
section
/-! DEFINITION. The block's step: the command at the front of the queue, and an idle step on an empty one. -/

namespace Sys2Proof.Machine

/-- One step: the oldest waiting command leaves the queue and is run; with none waiting the block idles (DESIGN CHOICE, log 10). -/
def step (s : State) : Host.Outcome State Fault Refusal :=
  match s.pending with
  | [] => .next s
  | c :: rest => exec c { s with pending := rest }

/-- The state with the command that a table word spells put at the front of its queue; unchanged where it spells none. -/
def State.withFetchWord (s : State) (nbits w : Nat) : State :=
  match decodeTableWord nbits w with
  | none => s
  | some c => { s with pending := c :: s.pending }

end Sys2Proof.Machine
end

