-- ==== Sys2Proof/Safety.lean ====
section
/-! DEFINITION. What a good state of the block is: the laws the manual states over its tables, lists and lines, each a decidable
property of one state. Nothing stops the block (log 3), so a safe run is one in which these laws hold throughout. -/

namespace Sys2Proof.Machine

/-! ## Tables and pool -/

/-- The law of the pool (R96): no buffer has two holders, and none is named twice by one holder. -/
abbrev State.PoolLaw (s : State) : Prop := s.pool.held.Nodup

/-- The first law of the table (R22): no two occupied entries hold the same address. -/
abbrev State.AddressLaw (s : State) : Prop :=
  ∀ i j : EntryIx, s.table[i].state ≠ .empty → s.table[j].state ≠ .empty → s.table[i].address = s.table[j].address → i = j

/-- The table's law over the miss count (R29): an ONLINE entry has miss count 0. -/
abbrev State.OnlineLaw (s : State) : Prop := ∀ i : EntryIx, s.table[i].state = .online → s.table[i].miss = 0

/-- The counters stay within their widths (Conventions, R20, R26, R30, R152, R169, R181). -/
abbrev State.CounterLaw (s : State) : Prop :=
  (∀ i : EntryIx, s.table[i].miss ≤ 15 ∧ s.table[i].goodCount ≤ 65535 ∧ s.table[i].failCount ≤ 65535 ∧
    s.table[i].dupCount ≤ 255) ∧
  s.line.noise ≤ 65535 ∧ s.line.stray ≤ 65535 ∧ s.line.contCount ≤ 7 ∧ s.events.lost ≤ 255 ∧ s.port.latch.count ≤ 255

/-- The entry that an exchange has as its target (R47, R48). -/
def Exchange.targetEntry : Exchange → Option EntryIx
  | .poll i _ => some i
  | .deliver i _ => some i
  | .probe _ => none
  | .broadcast _ => none

/-- The entry that is the target of the exchange in flight, if it has one (R28). -/
def State.target (s : State) : Option EntryIx := s.engine.record.bind fun r => r.exch.targetEntry

/-- The engine holds a record exactly while it is out of IDLE (R48). -/
abbrev State.RecordLaw (s : State) : Prop := s.engine.state = .idle ↔ s.engine.record = none

/-- The in-flight flags follow the exchange in flight (R28), its target is occupied (R48), a RETIRING entry is such a target
(R39), and an EMPTY entry holds its EMPTY values and no message (R22, R96). -/
abbrev State.TargetLaw (s : State) : Prop :=
  s.RecordLaw ∧
  (∀ i : EntryIx, s.table[i].inFlight = true ↔ s.target = some i) ∧
  (∀ i : EntryIx, s.target = some i → s.table[i].state ≠ .empty) ∧
  (∀ i : EntryIx, s.table[i].state = .retiring → s.target = some i) ∧
  (∀ i : EntryIx, s.table[i].state = .empty → s.table[i] = Entry.vacant ∧ s.pool.outbound[i] = [])

/-- The reply buffer of the exchange in flight, if it is a POLL (R48). -/
def State.replyBuffer (s : State) : Option BufIx :=
  match s.engine.record with
  | none => none
  | some r =>
    match r.exch with
    | .poll _ b => some b
    | _ => none

/-- The reply reservation is held exactly while a POLL is in flight, and it is that POLL's reply buffer (R96, R119). -/
abbrev State.ReservationLaw (s : State) : Prop := s.RecordLaw ∧ s.pool.reserved = s.replyBuffer

/-- The lists of messages (R104, R111): their capacities, and that a message behind its head is QUEUED and untransmitted. -/
abbrev State.ListLaw (s : State) : Prop :=
  (∀ i : EntryIx, s.pool.outbound[i].length ≤ 8 ∧
    ∀ b ∈ s.pool.outbound[i].tail, s.pool.buffers[b].mark = .queued ∧ s.pool.buffers[b].transmitted = false) ∧
  s.pool.broadcast.length ≤ 4 ∧
  ∀ b ∈ s.pool.broadcast.tail, s.pool.buffers[b].mark = .queued ∧ s.pool.buffers[b].transmitted = false

/-- The message of the exchange in flight heads its list, and no other message on a list is marked (R105, R111). -/
abbrev State.MarkLaw (s : State) : Prop :=
  (∀ i : EntryIx, ∀ b ∈ s.pool.outbound[i], s.pool.buffers[b].mark ≠ .queued →
    s.pool.outbound[i].head? = some b ∧ s.engine.record.map (fun r => r.exch) = some (.deliver i b)) ∧
  ∀ b ∈ s.pool.broadcast, s.pool.buffers[b].mark ≠ .queued →
    s.pool.broadcast.head? = some b ∧ s.engine.record.map (fun r => r.exch) = some (.broadcast b)

/-- The converse (R105, R111): the message of a DELIVER in flight heads its target's list and is marked IN_FLIGHT or
CANCEL_PENDING, and the message of a BROADCAST in flight heads the broadcast list and is marked. -/
abbrev State.HeadLaw (s : State) : Prop :=
  (∀ (i : EntryIx) (b : BufIx), s.engine.record.map (fun r => r.exch) = some (.deliver i b) →
    s.pool.outbound[i].head? = some b ∧ s.pool.buffers[b].mark ≠ .queued) ∧
  ∀ b : BufIx, s.engine.record.map (fun r => r.exch) = some (.broadcast b) →
    s.pool.broadcast.head? = some b ∧ s.pool.buffers[b].mark ≠ .queued

/-! ## The scheduler and the sweep -/

/-- The urgent list (R74, R91 to R93): no entry twice, at most 8, mirrored by the urgent-listed flags, and only entries that
are NEW, ONLINE, SUSPECT or LOST. -/
abbrev State.UrgentLaw (s : State) : Prop :=
  s.sched.urgent.Nodup ∧ s.sched.urgent.length ≤ 8 ∧
  (∀ i : EntryIx, s.table[i].urgentListed = true ↔ i ∈ s.sched.urgent) ∧
  ∀ i ∈ s.sched.urgent, s.table[i].state ≠ .empty ∧ s.table[i].state ≠ .parked ∧ s.table[i].state ≠ .retiring

/-- The scheduler's record (R74, R82, R87, R90): credit is held while the walk is DORMANT, PACE_WAIT stands at slot 0 with the
pace timer running, and a run that goes on is shorter than the ring. -/
abbrev State.SchedulerLaw (s : State) : Prop :=
  1 ≤ s.params.ringLen ∧ s.params.ringLen ≤ 64 ∧ s.sched.run.count ≤ 64 ∧
  (s.sched.walk = .dormant → s.sched.credit = true) ∧
  (s.sched.walk = .paceWait → s.sched.pointer = 0 ∧ s.sched.paceTimer.isSome = true) ∧
  (s.sched.walk = .walking ∨ s.sched.walk = .paceWait → s.sched.run.count < s.params.ringLen)

/-- The address of the PROBE in flight, if the exchange is one (R48). -/
def State.probed (s : State) : Option Nat :=
  match s.engine.record with
  | none => none
  | some r =>
    match r.exch with
    | .probe a => some a
    | _ => none

/-- The sweep record (R138) and the table's second law (R22): a running sweep has its cursor within its range of station
addresses, the flag is set exactly while a PROBE of the cursor address is in flight, a STOPPING sweep has one outstanding, and
every occupied entry's address lies in 1 to 126. -/
abbrev State.SweepLaw (s : State) : Prop :=
  s.RecordLaw ∧
  (s.sweep.state ≠ .idle → 1 ≤ s.sweep.cursor ∧ s.sweep.cursor ≤ s.sweep.last ∧ s.sweep.last ≤ 126) ∧
  (s.sweep.outstanding = true → s.sweep.state ≠ .idle ∧ s.probed = some s.sweep.cursor) ∧
  (s.probed.isSome = true → s.sweep.outstanding = true) ∧
  (s.sweep.state = .stopping → s.sweep.outstanding = true) ∧
  ∀ i : EntryIx, s.table[i].state ≠ .empty → 1 ≤ s.table[i].address ∧ s.table[i].address ≤ 126

/-! ## The line -/

/-- The line, the engine and the driver (R11, R12, R49 to R53, R159, R162): the engine is out of IDLE only in RUNNING or
DRAINING, the framer transmits only in SENDING, times a guard only in GUARD and asserts DE only in these two, and a quiet
request is pending exactly in SETTLE_WAIT and SETTLE. -/
abbrev State.LineLaw (s : State) : Prop :=
  s.RecordLaw ∧
  (s.engine.state ≠ .idle → s.line.state = .running ∨ s.line.state = .draining) ∧
  (s.framer.tx.isSome = true → s.engine.state = .sending) ∧
  (s.framer.guardEnd.isSome = true → s.engine.state = .guard) ∧
  (s.framer.driverEnable = true → s.engine.state = .sending ∨ s.engine.state = .guard) ∧
  (s.line.quiet.isSome = true ↔ s.engine.state = .settleWait ∨ s.engine.state = .settle)

/-- The protocol parameters and the line configuration lie in their ranges (R166, R173, R196). -/
abbrev State.RangeLaw (s : State) : Prop :=
  s.params.retries ≤ 7 ∧ (1 ≤ s.params.lostLim ∧ s.params.lostLim ≤ 15) ∧ (1 ≤ s.params.recover ∧ s.params.recover ≤ 15) ∧
  (1 ≤ s.params.busyLim ∧ s.params.busyLim ≤ 15) ∧ (1 ≤ s.params.backoff ∧ s.params.backoff ≤ 15) ∧
  (1 ≤ s.params.maxq ∧ s.params.maxq ≤ 8) ∧ s.params.reserve ≤ 8 ∧ s.params.pace ≤ 255 ∧
  (1 ≤ s.params.ringLen ∧ s.params.ringLen ≤ 64) ∧ (1 ≤ s.params.inqThr ∧ s.params.inqThr ≤ 24) ∧
  s.events.filter.toNat ≤ 15 ∧
  s.line.cfg.lrate ≤ 7 ∧ s.line.cfg.lguard ≤ 31 ∧ (1 ≤ s.line.cfg.lreply ∧ s.line.cfg.lreply ≤ 63) ∧
  (1 ≤ s.line.cfg.lgap ∧ s.line.cfg.lgap ≤ 7) ∧ (1 ≤ s.line.cfg.lsettle ∧ s.line.cfg.lsettle ≤ 15) ∧
  s.line.cfg.lopt &&& 0x7C#8 = 0#8 ∧ (1 ≤ s.line.cfg.contlim ∧ s.line.cfg.contlim ≤ 7)

/-! ## The events and the host port -/

/-- The event queue (R169, R174): at most 32 records, and postings have been lost only while it is full. -/
abbrev State.EventLaw (s : State) : Prop :=
  s.events.records.length ≤ 32 ∧ (s.events.lost ≠ 0 → s.events.records.length = 32)

/-- The host-error latch (R181): the count is non-zero only while the flag is set, and a set flag has its first code. -/
abbrev State.LatchLaw (s : State) : Prop :=
  (s.port.latch.count ≠ 0 → s.port.latch.flag = true) ∧ (s.port.latch.flag = true → s.port.latch.first.isSome = true)

/-- No look of the scheduler is owed between steps (R75, log 4). -/
abbrev State.LookLaw (s : State) : Prop := s.sched.lookDue = false

/-- Everything above at once. -/
abbrev State.good (s : State) : Prop :=
  s.PoolLaw ∧ s.AddressLaw ∧ s.OnlineLaw ∧ s.CounterLaw ∧ s.TargetLaw ∧ s.ReservationLaw ∧ s.ListLaw ∧ s.MarkLaw ∧ s.HeadLaw ∧
  s.UrgentLaw ∧ s.SchedulerLaw ∧ s.SweepLaw ∧ s.LineLaw ∧ s.RangeLaw ∧ s.EventLaw ∧ s.LatchLaw ∧ s.LookLaw

/-! ## Words the statements use -/

/-- What the answer of a command leaves in the host port (R189): the code read back, CRES and CVAL; a write leaves the data
lines undriven (R184). -/
def State.answered (s : State) (code : Byte) (r : Res) (v : Nat) : State :=
  { s with port := { s.port with cmd := code, cres := r, cval := BitVec.ofNat 8 v, dataLines := none } }

/-- The data lines undriven, as a write leaves them (R184). -/
def State.undriven (s : State) : State := { s with port := { s.port with dataLines := none } }

/-- The data lines driven with a value, as a read leaves them (R184). -/
def State.driving (s : State) (v : Word) : State := { s with port := { s.port with dataLines := some v } }

/-- The postings of a step, in their order (R174). -/
def State.posting (s : State) (es : List Event) : State := es.foldl (fun t e => post e t) s

/-- An event that names an entry (R170, R171). -/
def entryEvent (c : EventCode) (i : EntryIx) (address : Nat) (id : Byte) (detail : Nat) : Event :=
  { code := c, entry := some i, address := address, id := id, detail := BitVec.ofNat 16 detail }

/-- An event that names no entry (R170, R171). -/
def plainEvent (c : EventCode) (address : Nat) (id : Byte) (detail : Nat) : Event :=
  { code := c, address := address, id := id, detail := BitVec.ofNat 16 detail }

/-- The register map's power-on values (section 10.8), address by address, but for the four addresses with a dash in the map. -/
def powerOnMap : List (BitVec 6 × Byte) :=
  [(0x00#6, 0x00#8), (0x01#6, 0x00#8), (0x02#6, 0x00#8), (0x03#6, 0x00#8), (0x04#6, 0x00#8), (0x05#6, 0x00#8),
   (0x06#6, 0x00#8), (0x07#6, 0x00#8), (0x08#6, 0x00#8), (0x09#6, 0x00#8), (0x0A#6, 0x00#8), (0x0B#6, 0x00#8),
   (0x0E#6, 0x00#8), (0x11#6, 0x00#8), (0x12#6, 0xFF#8), (0x13#6, 0x00#8), (0x14#6, 0x00#8), (0x15#6, 0x00#8),
   (0x16#6, 0x00#8), (0x17#6, 0x00#8), (0x18#6, 0x00#8), (0x19#6, 0x0F#8), (0x1A#6, 0x00#8), (0x1B#6, 0x00#8),
   (0x1C#6, 0x00#8), (0x1D#6, 0x18#8), (0x1E#6, 0x00#8), (0x1F#6, 0x01#8), (0x20#6, 0xFF#8), (0x21#6, 0x00#8),
   (0x22#6, 0xFF#8), (0x23#6, 0x00#8), (0x24#6, 0x00#8), (0x25#6, 0x40#8), (0x26#6, 0x00#8), (0x27#6, 0x00#8),
   (0x28#6, 0x00#8), (0x29#6, 0x00#8), (0x2A#6, 0x04#8), (0x2B#6, 0x02#8), (0x2C#6, 0x03#8), (0x2D#6, 0x08#8),
   (0x2E#6, 0x02#8), (0x2F#6, 0x04#8), (0x30#6, 0x02#8), (0x31#6, 0x01#8), (0x32#6, 0x02#8), (0x33#6, 0x04#8),
   (0x34#6, 0x02#8), (0x35#6, 0x02#8), (0x36#6, 0x81#8), (0x37#6, 0x03#8), (0x38#6, 0x00#8), (0x39#6, 0x00#8),
   (0x3A#6, 0x00#8), (0x3B#6, 0x00#8), (0x3C#6, 0x00#8), (0x3D#6, 0x00#8), (0x3E#6, 0x00#8), (0x3F#6, 0x00#8)]

end Sys2Proof.Machine
end

