-- ==== Sys2Proof/WellFormed.lean ====
section
/-! DEFINITION. Which terms of Instr are the steps of the table: the two rows that say "any other" and "not listed". -/

namespace Sys2Proof

/-- The command codes of the command table (R189, section 10.3). -/
def commandCodes : List Byte :=
  [0x10#8, 0x11#8, 0x12#8, 0x13#8, 0x14#8, 0x15#8, 0x20#8, 0x21#8, 0x22#8, 0x23#8, 0x30#8, 0x31#8, 0x40#8, 0x41#8,
   0x50#8, 0x51#8, 0x52#8, 0x53#8, 0x5F#8]

/-- The byte addresses whose writes have a row of their own: CMD, HERR, WINDATA (L), STGDATA, EVFILTER, INTSET, INTCLR,
INQTHR, RINGLEN and the seven line configuration registers. -/
def ownRowAddresses : List (BitVec 6) :=
  [0x01#6, 0x0B#6, 0x0C#6, 0x0E#6, 0x19#6, 0x1A#6, 0x1B#6, 0x1F#6, 0x25#6, 0x31#6, 0x32#6, 0x33#6, 0x34#6, 0x35#6,
   0x36#6, 0x37#6]

/-- A term is well formed when it is the step its row names: UNKNOWN_COMMAND carries a code that is not listed, and
REGISTER_WRITE an address that has no row of its own. Every other operand of every row is free. -/
def Instr.wellFormed : Instr → Bool
  | .unknownCommand code => !commandCodes.contains code
  | .registerWrite addr _ => !ownRowAddresses.contains addr
  | .pinReset _ => true
  | .add => true
  | .remove => true
  | .park => true
  | .resume => true
  | .urgent => true
  | .clearCounters => true
  | .stageOpen => true
  | .stageCommit => true
  | .stageDiscard => true
  | .cancel => true
  | .rxOpen => true
  | .rxRelease => true
  | .sweepStart => true
  | .sweepStop => true
  | .lineStart => true
  | .lineHalt => true
  | .lineAbort _ => true
  | .lineReset => true
  | .deviceReset => true
  | .stgdataWrite _ => true
  | .rxdataRead => true
  | .evpopRead => true
  | .windataRead => true
  | .windataWrite _ => true
  | .wideRegisterRead _ _ => true
  | .herrWrite _ => true
  | .intsetWrite _ => true
  | .intclrWrite _ => true
  | .lineConfigWrite _ _ => true
  | .ringlenWrite _ => true
  | .inqthrWrite _ => true
  | .evfilterWrite _ => true
  | .droppedAccess => true
  | .startEdgeCheck _ => true
  | .strayCharacter _ _ => true
  | .huntCharacter _ _ => true
  | .collectCharacter _ _ => true
  | .discardCharacter _ _ => true
  | .breakCharacter => true
  | .echoComparison _ _ _ _ => true
  | .contentionStop _ => true
  | .frameSent _ => true
  | .lineRelease => true
  | .gapExpiry => true
  | .takeLimit => true
  | .drainLimit => true
  | .quietDeadline => true
  | .babbleDeadline => true
  | .paceExpiry => true
  | .resetAsserted => true
  | .startEdge _ => true
  | .receiverRearm _ => true

end Sys2Proof
end

