-- ==== Sys2Proof/Certificates/Slice0/Obligations.lean ====
section
/-! DEFINITION. The statements about the ML32. A statement about a command gives the whole next state as an update of the state
it found, so that whatever it does not name is unchanged. `finish` stands around that state: it makes the scheduler's look if
the step brought an arrival (stated by the statements of the look). A step is `live` where RESET# does not hold the part. -/

open Sys2Proof Sys2Proof.Machine

/-! ## The queue of commands and the resets -/

/-- A step takes the command at the front of the queue and runs it with the rest; with none waiting the block idles (log 10). -/
def Obligations.StepRunsFrontCommand : Prop :=
  (∀ (c : Instr) (rest : List Instr) (s : State), s.pending = c :: rest → step s = exec c { s with pending := rest }) ∧
  ∀ s : State, s.pending = [] → step s = .next s

/-- Every command answers a next state in every state: nothing stops the part (log 3), and a line-side step that does not fit the
state changes nothing (log 6). It leaves the queue as it is and does not turn the model's clock back (log 1), and the bus width
holds until the next pin reset. -/
def Obligations.EveryCommandCompletes : Prop :=
  ∀ (c : Instr) (s : State), ∃ t, exec c s = .next t ∧ t.pending = s.pending ∧ s.now ≤ t.now ∧
    ((∀ b, c ≠ .pinReset b) → t.port.wide = s.port.wide)

/-- RESET# low: the framer stops with DE low, TXD high and no character in assembly, the data lines are not driven and IRQ# is
released; and while the part is held in reset only the rise of RESET# has an effect beyond that. That the other blocks keep their
records at the fall, and that no line-side step or timer has an effect while RESET# is low, is log 11. -/
def Obligations.HeldInReset : Prop :=
  (∀ s : State, ∃ t, exec .resetAsserted s = .next t ∧ t.framer.driverEnable = false ∧ (∀ k, txdAt t k = true) ∧
    t.framer.rx = .idle ∧ t.port.dataLines = none ∧ irqAsserted t = false ∧ t.port.inReset = true ∧
    t = { s with framer := t.framer, port := { s.port with inReset := true, dataLines := none } }) ∧
  ∀ (c : Instr) (s : State), s.port.inReset = true → (∀ b, c ≠ .pinReset b) → c ≠ .resetAsserted → exec c s = .next s

/-- The rise of RESET#: the width from BUSW, every block at its pin-reset values, every register at its power-on value, no
event, the interrupt line released, DE low and TXD high. The whole next state is given. The values the manual does not state are
the model's: the contents of free buffers, the framer's header fields, the clock and the queue kept (log 18, log 1), the CRC
registers at 0xFFFF (log 19), the data lines undriven (log 20), and no deferral or look remembered (log 22, log 4). -/
def Obligations.PinResetValues : Prop :=
  ∀ (busw : Bool) (s : State),
    let t : State := {
      table := Vector.replicate 32 {
        address := 0, state := .empty, holdOnLoss := false, urgentOnMore := false, ident := none, miss := 0, nextNum := 0#3
        fresh := false, lastTaken := none, backoff := 0, inFlight := false, urgentListed := false, goodCount := 0
        failCount := 0, dupCount := 0 }
      pool := {
        buffers := Vector.replicate 24 {
          payload := [], msgId := 0#8, mark := .queued, transmitted := false, busyCount := 0, srcEntry := 0, srcAddr := 0
          reportNum := 0#3, packed := false }
        outbound := Vector.replicate 32 []
        broadcast := [], staged := none, inbound := [], readPort := none, reserved := none, broadcastNum := 0#3 }
      params := {
        retries := 2, lostLim := 3, recover := 4, busyLim := 8, backoff := 2, maxq := 4, reserve := 2, pace := 0, ringLen := 64
        inqThr := 1 }
      sched := {
        ring := Vector.replicate 64 none
        pointer := 0, passCount := 0#16, paceTimer := none, urgent := [], credit := false, exhausted := false, walk := .walking
        run := { count := 0, deferral := false, live := false }, urgentDeferred := none, lookDue := false }
      sweep := { state := .idle, cursor := 0, last := 0, autoAdd := false, outstanding := false }
      line := {
        state := .stopped, contCount := 0, quiet := none, noise := 0, stray := 0
        cfg := { lrate := 1, lguard := 2, lreply := 4, lgap := 2, lsettle := 2, lopt := 0x81#8, contlim := 3 } }
      framer := {
        mode := .watch, driverEnable := false, tx := none, guardEnd := none, crcGen := 0xFFFF#16, crcCheck := 0xFFFF#16
        rx := .idle, hdrAddress := 0#8, hdrKindTag := 0#8, hdrLength := 0#8, taken := 0, crcHigh := 0#8, gap := none }
      engine := {
        state := .idle, record := none, windowEnd := none, takeLimit := none, drainLimit := none, kept := [] }
      events := { records := [], lost := 0, filter := 0x0F#8, view := none }
      port := {
        wide := busw, cmd := 0#8, carg0 := 0#8, carg1 := 0#8, carg2 := 0#8, carg3 := 0#8, cres := .ok, cval := 0#8
        winsel := 0#8, winidx := 0#8, winfld := 0#8, stagePtr := 0, readPtr := 0, hold := none
        latch := { flag := false, first := none, count := 0 }, mask := 0#3, inReset := false, dataLines := none }
      now := s.now
      pending := s.pending }
    exec (.pinReset busw) s = .next t ∧
    (∀ r ∈ powerOnMap, registerValue r.1 t = r.2) ∧ irqAsserted t = false ∧ (∀ k, txdAt t k = true) ∧ t.pool.held = []

/-- DEVICE_RESET leaves what a pin reset leaves, with the bus width kept, CMD reading 0x5F and RESET_DONE(DEVICE) as the one
record of the queue; STATUS reads 0x10 and the interrupt line is released. -/
def Obligations.DeviceResetValues : Prop :=
  ∀ s : State, s.port.inReset = false → ∃ p t, exec (.pinReset s.port.wide) s = .next p ∧ exec .deviceReset s = .next t ∧
    t = { p with
      port := { p.port with cmd := 0x5F#8 }
      events := { p.events with records := [{ code := .resetDone, entry := none, address := 0, id := 0#8, detail := 2#16 }] } } ∧
    statusByte t = 0x10#8 ∧ irqAsserted t = false

/-- LINE_RESET, entry by entry and block by block. The framer's header fields and the clock kept are log 18, its CRC registers at
0xFFFF log 19, and the forgotten deferral log 22. -/
def Obligations.LineResetValues : Prop :=
  ∀ s : State, s.port.inReset = false → ∃ t, exec .lineReset s = .next t ∧
    (∀ i : EntryIx, s.table[i].state = .empty ∨ s.table[i].state = .retiring → t.table[i] = {}) ∧
    (∀ i : EntryIx, s.table[i].state ≠ .empty → s.table[i].state ≠ .retiring →
      t.table[i] = { s.table[i] with
        state := if s.table[i].state = .parked then .parked else .new
        miss := 0
        backoff := 0
        goodCount := 0
        failCount := 0
        dupCount := 0
        inFlight := false
        urgentListed := false
        nextNum := match s.pool.outbound[i] with
          | [] => s.table[i].nextNum
          | b :: _ => if s.pool.buffers[b].transmitted then s.table[i].nextNum + 1#3 else s.table[i].nextNum }) ∧
    t.pool.held = [] ∧
    t.pool.broadcastNum = (match s.pool.broadcast with
      | [] => s.pool.broadcastNum
      | b :: _ => if s.pool.buffers[b].transmitted then s.pool.broadcastNum + 1#3 else s.pool.broadcastNum) ∧
    t.params = s.params ∧ t.line = { cfg := s.line.cfg } ∧ t.engine = {} ∧ t.framer = {} ∧ t.sweep = {} ∧
    t.sched = { Scheduler.powerOn with ring := s.sched.ring } ∧
    t.events = { records := [{ code := .resetDone, detail := 1#16 }], lost := 0, filter := s.events.filter, view := none } ∧
    t.port = { s.port with
      cmd := 0x53#8
      cres := .ok
      cval := 0#8
      stagePtr := 0
      readPtr := 0
      hold := none
      latch := { flag := false, first := s.port.latch.first, count := 0 }
      dataLines := none } ∧
    t.now = s.now ∧ t.pending = s.pending

/-- The state right after reset meets every law of Safety. -/
def Obligations.ResetMeetsTheLaws : Prop := State.reset.good

/-! ## Commands refused (R190) -/

/-- A command whose answer is a refusal leaves the part as it was, but for CRES, CVAL, the code read back from CMD and the data
lines. (The premise is a law of the model, stated below to be kept by every step; an unknown code is the next statement's.) -/
def Obligations.RefusedCommandChangesNothing : Prop :=
  ∀ (c : Instr) (s t : State), s.port.inReset = false → s.LookLaw →
    c ∈ ([.add, .remove, .park, .resume, .urgent, .clearCounters, .stageOpen, .stageCommit, .stageDiscard, .cancel, .rxOpen,
      .rxRelease, .sweepStart, .sweepStop, .lineStart, .lineHalt, .lineReset, .deviceReset] : List Instr) →
    exec c s = .next t → t.port.cres.refuses = true →
    t = { s with port := { s.port with cmd := t.port.cmd, cres := t.port.cres, cval := t.port.cval, dataLines := none } }

/-- A code that is not in the command table: UNKNOWN_COMMAND, CVAL 0, the host error, and the code read back. -/
def Obligations.UnknownCommandRule : Prop :=
  ∀ (code : Byte) (s : State), s.port.inReset = false → (Instr.unknownCommand code).wellFormed = true →
    exec (.unknownCommand code) s = .next (finish ((hostError .unknownCommand s).answered code .unknownCommand 0)) ∧
    ∀ t, exec (.unknownCommand code) s = .next t → t.port.cres.code = 19 ∧ registerValue 0x01#6 t = code

/-! ## The station table's commands -/

/-- ADD: its four refusals in order, and the entry it makes in the lowest-numbered EMPTY entry; a wake. -/
def Obligations.AddRule : Prop :=
  ∀ s : State, s.port.inReset = false →
    let a := s.port.carg0.toNat
    let o := s.port.carg1.toNat
    let isHeld := ∃ j : EntryIx, s.table[j].state ≠ .empty ∧ s.table[j].address = a
    (a = 0 ∨ 127 ≤ a → exec .add s = .next (finish (s.answered 0x10#8 .badAddress 0))) ∧
    (1 ≤ a → a ≤ 126 → 3 < o → exec .add s = .next (finish (s.answered 0x10#8 .badArgument 0))) ∧
    (1 ≤ a → a ≤ 126 → o ≤ 3 → isHeld → exec .add s = .next (finish (s.answered 0x10#8 .duplicateAddress 0))) ∧
    (1 ≤ a → a ≤ 126 → o ≤ 3 → ¬isHeld → (∀ j : EntryIx, s.table[j].state ≠ .empty) →
      exec .add s = .next (finish (s.answered 0x10#8 .tableFull 0))) ∧
    ∀ i : EntryIx, 1 ≤ a → a ≤ 126 → o ≤ 3 → ¬isHeld → s.table[i].state = .empty →
      (∀ j : EntryIx, j < i → s.table[j].state ≠ .empty) →
      let added : Entry := {
        address := a
        state := .new
        holdOnLoss := decide (o % 2 = 1)
        urgentOnMore := decide (2 ≤ o)
        ident := none
        miss := 0
        nextNum := 0#3
        fresh := true
        lastTaken := none
        backoff := 0
        inFlight := false
        urgentListed := false
        goodCount := 0
        failCount := 0
        dupCount := 0 }
      exec .add s = .next (finish ((wake { s with table := s.table.set i added }).answered 0x10#8 .ok i.val))

/-- REMOVE with no exchange to the entry in flight: the flush, the urgent list, EMPTY, STATION_RETIRED; and its refusals. -/
def Obligations.RemoveAtOnce : Prop :=
  ∀ s : State, s.port.inReset = false →
    (31 < s.port.carg0.toNat → exec .remove s = .next (finish (s.answered 0x11#8 .badEntry 0))) ∧
    ∀ i : EntryIx, s.port.carg0.toNat = i.val →
      (s.table[i].state = .empty → exec .remove s = .next (finish (s.answered 0x11#8 .badEntry 0))) ∧
      (s.table[i].state = .retiring → exec .remove s = .next (finish (s.answered 0x11#8 .wrongState 0))) ∧
      (s.table[i].state ≠ .empty → s.table[i].state ≠ .retiring → s.table[i].inFlight = false →
        let freed := if s.pool.outbound[i] = [] then s else bufferFreed s
        let gone := { freed with
          table := s.table.set i {}
          pool := { s.pool with outbound := s.pool.outbound.set i [] }
          sched := { freed.sched with urgent := s.sched.urgent.filter fun j => j != i } }
        let records := s.pool.outbound[i].map fun b : BufIx =>
          entryEvent .cancelled i s.table[i].address s.pool.buffers[b].msgId 2
        exec .remove s = .next (finish ((gone.posting
          (records ++ [entryEvent .stationRetired i s.table[i].address 0#8 0])).answered 0x11#8 .ok 0)))

/-- REMOVE with an exchange to the entry in flight whose attempt is under way: RETIRING and PENDING; the messages that are
neither IN_FLIGHT nor CANCEL_PENDING leave with CANCELLED(REMOVED), and the exchange runs on. -/
def Obligations.RemoveInFlight : Prop :=
  ∀ (s : State) (i : EntryIx), s.port.inReset = false → s.port.carg0.toNat = i.val →
    s.table[i].state ≠ .empty → s.table[i].state ≠ .retiring → s.table[i].inFlight = true →
    s.engine.state ≠ .settleWait → s.engine.state ≠ .settle →
    let queued := s.pool.outbound[i].filter fun b : BufIx => s.pool.buffers[b].mark == .queued
    let freed := if queued = [] then s else bufferFreed s
    let left := { freed with
      table := s.table.set i { s.table[i] with
        state := .retiring
        urgentListed := false
        nextNum := s.table[i].nextNum +
          BitVec.ofNat 3 (queued.countP fun b : BufIx => s.pool.buffers[b].transmitted) }
      pool := { s.pool with
        outbound := s.pool.outbound.set i (s.pool.outbound[i].filter fun b : BufIx => s.pool.buffers[b].mark != Mark.queued) }
      sched := { freed.sched with urgent := s.sched.urgent.filter fun j => j != i } }
    exec .remove s = .next (finish ((left.posting (queued.map fun b : BufIx =>
      entryEvent .cancelled i s.table[i].address s.pool.buffers[b].msgId 2)).answered 0x11#8 .pending 0))

/-- PARK and RESUME: their refusals, and what they set. -/
def Obligations.ParkAndResumeRule : Prop :=
  ∀ s : State, s.port.inReset = false →
    (31 < s.port.carg0.toNat →
      exec .park s = .next (finish (s.answered 0x12#8 .badEntry 0)) ∧
      exec .resume s = .next (finish (s.answered 0x13#8 .badEntry 0))) ∧
    ∀ i : EntryIx, s.port.carg0.toNat = i.val →
      (s.table[i].state = .empty →
        exec .park s = .next (finish (s.answered 0x12#8 .badEntry 0)) ∧
        exec .resume s = .next (finish (s.answered 0x13#8 .badEntry 0))) ∧
      (s.table[i].state = .parked ∨ s.table[i].state = .retiring →
        exec .park s = .next (finish (s.answered 0x12#8 .wrongState 0))) ∧
      (s.table[i].state ≠ .empty → s.table[i].state ≠ .parked →
        exec .resume s = .next (finish (s.answered 0x13#8 .wrongState 0))) ∧
      (s.table[i].state = .new ∨ s.table[i].state = .online ∨ s.table[i].state = .suspect ∨ s.table[i].state = .lost →
        exec .park s = .next (finish ({ s with
          table := s.table.set i { s.table[i] with state := .parked, urgentListed := false }
          sched := { s.sched with urgent := s.sched.urgent.filter fun j => j != i } }.answered 0x12#8 .ok 0))) ∧
      (s.table[i].state = .parked →
        exec .resume s = .next (finish ((wake { s with
          table := s.table.set i { s.table[i] with state := .new, miss := 0, backoff := 0 } }).answered 0x13#8 .ok 0)))

/-- URGENT: its tests in order; CVAL is the number of entries on the list. -/
def Obligations.UrgentRule : Prop :=
  ∀ s : State, s.port.inReset = false →
    (31 < s.port.carg0.toNat → exec .urgent s = .next (finish (s.answered 0x14#8 .badEntry 0))) ∧
    ∀ i : EntryIx, s.port.carg0.toNat = i.val →
      let live := s.table[i].state = .new ∨ s.table[i].state = .online ∨ s.table[i].state = .suspect ∨ s.table[i].state = .lost
      (s.table[i].state = .empty → exec .urgent s = .next (finish (s.answered 0x14#8 .badEntry 0))) ∧
      (s.table[i].state = .parked ∨ s.table[i].state = .retiring →
        exec .urgent s = .next (finish (s.answered 0x14#8 .wrongState 0))) ∧
      (live → i ∈ s.sched.urgent →
        exec .urgent s = .next (finish ((wake s).answered 0x14#8 .ok s.sched.urgent.length))) ∧
      (live → i ∉ s.sched.urgent → 8 ≤ s.sched.urgent.length →
        exec .urgent s = .next (finish (s.answered 0x14#8 .listFull 0))) ∧
      (live → i ∉ s.sched.urgent → s.sched.urgent.length < 8 →
        exec .urgent s = .next (finish ((wake { s with
          table := s.table.set i { s.table[i] with urgentListed := true }
          sched := { s.sched with urgent := s.sched.urgent ++ [i] } }).answered 0x14#8 .ok (s.sched.urgent.length + 1))))

/-- CLEAR_COUNTERS for one entry and for all. -/
def Obligations.ClearCountersRule : Prop :=
  ∀ s : State, s.port.inReset = false →
    let cleared : EntryIx → Entry := fun i =>
      if s.table[i].state = .empty ∨ s.table[i].state = .retiring then s.table[i]
      else { s.table[i] with goodCount := 0, failCount := 0, dupCount := 0 }
    (32 < s.port.carg0.toNat → exec .clearCounters s = .next (finish (s.answered 0x15#8 .badEntry 0))) ∧
    (s.port.carg0.toNat = 32 → exec .clearCounters s = .next (finish ({ s with
      table := Vector.ofFn cleared }.answered 0x15#8 .ok 0))) ∧
    ∀ i : EntryIx, s.port.carg0.toNat = i.val →
      (s.table[i].state = .empty → exec .clearCounters s = .next (finish (s.answered 0x15#8 .badEntry 0))) ∧
      (s.table[i].state = .retiring → exec .clearCounters s = .next (finish (s.answered 0x15#8 .wrongState 0))) ∧
      (s.table[i].state ≠ .empty → s.table[i].state ≠ .retiring →
        exec .clearCounters s = .next (finish ({ s with
          table := s.table.set i { s.table[i] with goodCount := 0, failCount := 0, dupCount := 0 } }.answered 0x15#8 .ok 0)))

/-! ## Staging, commits and cancellation -/

/-- STAGE_OPEN: WRONG_STATE, NO_BUFFER, or the lowest-numbered free buffer staged with length 0. STAGE_DISCARD: NOTHING_STAGED, or
the staged buffer back on the free list. -/
def Obligations.StagingRule : Prop :=
  (∀ s : State, s.port.inReset = false →
     (s.pool.staged ≠ none → exec .stageOpen s = .next (finish (s.answered 0x20#8 .wrongState 0))) ∧
     (s.pool.staged = none → s.pool.freeCount ≤ s.params.reserve →
       exec .stageOpen s = .next (finish (s.answered 0x20#8 .noBuffer 0))) ∧
     ∀ b : BufIx, s.pool.staged = none → s.params.reserve < s.pool.freeCount → b ∉ s.pool.held →
       (∀ c : BufIx, c < b → c ∈ s.pool.held) →
       exec .stageOpen s = .next (finish ({ s with
         pool := { s.pool with staged := some b, buffers := s.pool.buffers.set b { s.pool.buffers[b] with payload := [] } }
         port := { s.port with stagePtr := 0 } }.answered 0x20#8 .ok b.val))) ∧
  ∀ s : State, s.port.inReset = false →
    (s.pool.staged = none → exec .stageDiscard s = .next (finish (s.answered 0x22#8 .nothingStaged 0))) ∧
    (s.pool.staged ≠ none → exec .stageDiscard s = .next (finish ((bufferFreed { s with
      pool := { s.pool with staged := none }
      port := { s.port with stagePtr := 0 } }).answered 0x22#8 .ok 0)))

/-- A write of STGDATA, by the room left in the staged message and the bus width: at most one host error. -/
def Obligations.StgdataWriteRule : Prop :=
  ∀ (data : Word) (s : State), s.port.inReset = false →
    (s.pool.staged = none → exec (.stgdataWrite data) s = .next (finish (hostError .noStage s).undriven)) ∧
    ∀ b : BufIx, s.pool.staged = some b →
      let held := s.pool.buffers[b].payload
      let stored := fun bytes : List Byte => { s with
        pool := { s.pool with buffers := s.pool.buffers.set b { s.pool.buffers[b] with payload := held ++ bytes } }
        port := { s.port with stagePtr := s.port.stagePtr + bytes.length } }
      let lo : Byte := data.extractLsb' 0 8
      let hi : Byte := data.extractLsb' 8 8
      (s.port.wide = false → held.length < 48 → exec (.stgdataWrite data) s = .next (finish (stored [lo]).undriven)) ∧
      (48 ≤ held.length → exec (.stgdataWrite data) s = .next (finish (hostError .overfill s).undriven)) ∧
      (s.port.wide = true → held.length < 47 → exec (.stgdataWrite data) s = .next (finish (stored [lo, hi]).undriven)) ∧
      (s.port.wide = true → held.length = 47 →
        exec (.stgdataWrite data) s = .next (finish (hostError .overfill (stored [lo])).undriven))

/-- STAGE_COMMIT: its tests in order, and the staged buffer at the tail of the destination list; a wake. -/
def Obligations.StageCommitRule : Prop :=
  ∀ s : State, s.port.inReset = false →
    (s.pool.staged = none → exec .stageCommit s = .next (finish (s.answered 0x21#8 .nothingStaged 0))) ∧
    ∀ b : BufIx, s.pool.staged = some b →
      let message := s.pool.buffers.set b { s.pool.buffers[b] with
        msgId := s.port.carg1, mark := .queued, transmitted := false, busyCount := 0 }
      (32 < s.port.carg0.toNat → exec .stageCommit s = .next (finish (s.answered 0x21#8 .badArgument 0))) ∧
      (s.port.carg0.toNat = 32 → 4 ≤ s.pool.broadcast.length →
        exec .stageCommit s = .next (finish (s.answered 0x21#8 .broadcastFull 0))) ∧
      (s.port.carg0.toNat = 32 → s.pool.broadcast.length < 4 →
        exec .stageCommit s = .next (finish ((wake { s with
          pool := { s.pool with buffers := message, staged := none, broadcast := s.pool.broadcast ++ [b] }
          port := { s.port with stagePtr := 0 } }).answered 0x21#8 .ok (s.pool.broadcast.length + 1)))) ∧
      ∀ i : EntryIx, s.port.carg0.toNat = i.val →
        (s.table[i].state = .empty ∨ s.table[i].state = .retiring →
          exec .stageCommit s = .next (finish (s.answered 0x21#8 .noStation 0))) ∧
        (s.table[i].state = .lost → s.table[i].holdOnLoss = false →
          exec .stageCommit s = .next (finish (s.answered 0x21#8 .stationLost 0))) ∧
        (s.table[i].state ≠ .empty → s.table[i].state ≠ .retiring → (s.table[i].state = .lost → s.table[i].holdOnLoss = true) →
          (s.params.maxq ≤ s.pool.outbound[i].length →
            exec .stageCommit s = .next (finish (s.answered 0x21#8 .stationQueueFull 0))) ∧
          (s.pool.outbound[i].length < s.params.maxq →
            exec .stageCommit s = .next (finish ((wake { s with
              pool := { s.pool with
                buffers := message, staged := none, outbound := s.pool.outbound.set i (s.pool.outbound[i] ++ [b]) }
              port := { s.port with stagePtr := 0 } }).answered 0x21#8 .ok (s.pool.outbound[i].length + 1)))))

/-- CANCEL on an entry's list: its refusals; the oldest message with the id removed if QUEUED, marked if IN_FLIGHT with an
attempt under way, and left if already CANCEL_PENDING. CANCEL on the broadcast list: a QUEUED message leaves with
CANCELLED(HOST); one in flight is answered TOO_LATE, with CVAL 0 (log 31). The record remembers a target that was RETIRING
(log 7). -/
def Obligations.CancelRule : Prop :=
  (∀ s : State, s.port.inReset = false →
     (32 < s.port.carg0.toNat → exec .cancel s = .next (finish (s.answered 0x23#8 .badArgument 0))) ∧
     ∀ i : EntryIx, s.port.carg0.toNat = i.val →
       let noted := s.engine.record.map fun r : InFlight => { r with lateCancel := s.table[i].state == .retiring }
       (s.table[i].state = .empty → exec .cancel s = .next (finish (s.answered 0x23#8 .badEntry 0))) ∧
       (s.table[i].state ≠ .empty → (∀ b ∈ s.pool.outbound[i], s.pool.buffers[b].msgId ≠ s.port.carg1) →
         exec .cancel s = .next (finish (s.answered 0x23#8 .notFound 0))) ∧
       ∀ (older : List BufIx) (b : BufIx) (newer : List BufIx), s.table[i].state ≠ .empty →
         s.pool.outbound[i] = older ++ b :: newer → (∀ c ∈ older, s.pool.buffers[c].msgId ≠ s.port.carg1) →
         s.pool.buffers[b].msgId = s.port.carg1 →
         (s.pool.buffers[b].mark = .queued →
           exec .cancel s = .next (finish (((bufferFreed { s with
             table := s.table.set i { s.table[i] with
               nextNum := if s.pool.buffers[b].transmitted then s.table[i].nextNum + 1#3 else s.table[i].nextNum }
             pool := { s.pool with outbound := s.pool.outbound.set i (older ++ newer) } }).posting
               [entryEvent .cancelled i s.table[i].address s.port.carg1 1]).answered 0x23#8 .ok 0))) ∧
         (s.pool.buffers[b].mark = .cancelPending →
           exec .cancel s = .next (finish (s.answered 0x23#8 .pending 0))) ∧
         (s.pool.buffers[b].mark = .inFlight → s.engine.state ≠ .settleWait → s.engine.state ≠ .settle →
           exec .cancel s = .next (finish ({ s with
             pool := { s.pool with buffers := s.pool.buffers.set b { s.pool.buffers[b] with mark := .cancelPending } }
             engine := { s.engine with record := noted } }.answered 0x23#8 .pending 0)))) ∧
  ∀ s : State, s.port.inReset = false → s.port.carg0.toNat = 32 →
    ((∀ b ∈ s.pool.broadcast, s.pool.buffers[b].msgId ≠ s.port.carg1) →
      exec .cancel s = .next (finish (s.answered 0x23#8 .notFound 0))) ∧
    ∀ (older : List BufIx) (b : BufIx) (newer : List BufIx), s.pool.broadcast = older ++ b :: newer →
      (∀ c ∈ older, s.pool.buffers[c].msgId ≠ s.port.carg1) → s.pool.buffers[b].msgId = s.port.carg1 →
      (s.pool.buffers[b].mark = .inFlight → exec .cancel s = .next (finish (s.answered 0x23#8 .tooLate 0))) ∧
      (s.pool.buffers[b].mark = .queued →
        exec .cancel s = .next (finish (((bufferFreed { s with
          pool := { s.pool with
            broadcast := older ++ newer
            broadcastNum := if s.pool.buffers[b].transmitted then s.pool.broadcastNum + 1#3 else s.pool.broadcastNum } }).posting
              [plainEvent .cancelled 127 s.port.carg1 1]).answered 0x23#8 .ok 0)))

/-- CANCEL and REMOVE between attempts: the exchange is withdrawn at once by the abandonment path with cause CANCEL or RETIRE,
and line control has its end notice. A REMOVE first takes every QUEUED message of the list, whatever the exchange; the record
remembers a CANCEL made of a RETIRING target (log 7). -/
def Obligations.WithdrawnInSettle : Prop :=
  ∀ (s : State) (i : EntryIx), s.port.inReset = false → s.port.carg0.toNat = i.val → s.table[i].state ≠ .empty →
    s.engine.state = .settleWait ∨ s.engine.state = .settle →
    let noted := s.engine.record.map fun r : InFlight => { r with lateCancel := s.table[i].state == .retiring }
    (∀ (older : List BufIx) (b : BufIx) (newer : List BufIx), s.pool.outbound[i] = older ++ b :: newer →
      (∀ c ∈ older, s.pool.buffers[c].msgId ≠ s.port.carg1) → s.pool.buffers[b].msgId = s.port.carg1 →
      s.pool.buffers[b].mark = .inFlight →
      exec .cancel s = .next (finish ((endNotice (abandon .cancel true { s with
        pool := { s.pool with buffers := s.pool.buffers.set b { s.pool.buffers[b] with mark := .cancelPending } }
        engine := { s.engine with record := noted } })).answered 0x23#8 .pending 0))) ∧
    (s.table[i].state ≠ .retiring → s.table[i].inFlight = true →
      let queued := s.pool.outbound[i].filter fun b : BufIx => s.pool.buffers[b].mark == .queued
      let freed := if queued = [] then s else bufferFreed s
      let left := { freed with
        table := s.table.set i { s.table[i] with
          state := .retiring
          urgentListed := false
          nextNum := s.table[i].nextNum +
            BitVec.ofNat 3 (queued.countP fun b : BufIx => s.pool.buffers[b].transmitted) }
        pool := { s.pool with
          outbound := s.pool.outbound.set i (s.pool.outbound[i].filter fun b : BufIx => s.pool.buffers[b].mark != Mark.queued) }
        sched := { freed.sched with urgent := s.sched.urgent.filter fun j => j != i } }
      let records := queued.map fun b : BufIx => entryEvent .cancelled i s.table[i].address s.pool.buffers[b].msgId 2
      exec .remove s =
        .next (finish ((endNotice (abandon .retire true (left.posting records))).answered 0x11#8 .pending 0)))

/-! ## The read port -/

/-- RX_OPEN: WRONG_STATE, QUEUE_EMPTY, or the oldest report in the read port with its length in CVAL. RX_RELEASE: NOTHING_OPEN, or
the report's buffer back on the free list; the view registers take their empty values. -/
def Obligations.ReadPortRule : Prop :=
  (∀ s : State, s.port.inReset = false →
     (s.pool.readPort ≠ none → exec .rxOpen s = .next (finish (s.answered 0x30#8 .wrongState 0))) ∧
     (s.pool.readPort = none → s.pool.inbound = [] → exec .rxOpen s = .next (finish (s.answered 0x30#8 .queueEmpty 0))) ∧
     ∀ (b : BufIx) (rest : List BufIx), s.pool.readPort = none → s.pool.inbound = b :: rest →
       exec .rxOpen s = .next (finish ({ s with
         pool := { s.pool with inbound := rest, readPort := some b }
         port := { s.port with readPtr := 0 } }.answered 0x30#8 .ok s.pool.buffers[b].payload.length))) ∧
  ∀ s : State, s.port.inReset = false →
    (s.pool.readPort = none → exec .rxRelease s = .next (finish (s.answered 0x31#8 .nothingOpen 0))) ∧
    (s.pool.readPort ≠ none → ∃ u, exec .rxRelease s = .next (finish (u.answered 0x31#8 .ok 0)) ∧
      u = bufferFreed { s with pool := { s.pool with readPort := none }, port := { s.port with readPtr := 0 } } ∧
      registerValue 0x20#6 u = 0xFF#8 ∧ registerValue 0x21#6 u = 0#8 ∧ registerValue 0x22#6 u = 0xFF#8 ∧
      registerValue 0x23#6 u = 0#8 ∧ registerValue 0x24#6 u = 0#8 ∧ registerValue 0x1E#6 u = registerValue 0x1E#6 s ∧
      inboundReady u = inboundReady s)

/-- A read of RXDATA, by the bytes left in the open report (none while the read port is empty) and the bus width. A write is
read-only. The upper half of the data lines, which 8-bit mode does not drive, stands as 0 in the model (log 20). -/
def Obligations.RxdataReadRule : Prop :=
  ∀ (s : State) (bytes : List Byte), s.port.inReset = false →
    (s.pool.readPort = none ∧ bytes = [] ∨ ∃ b : BufIx, s.pool.readPort = some b ∧ bytes = s.pool.buffers[b].payload) →
    let p := s.port.readPtr
    let past := fun n => { s with port := { s.port with readPtr := n } }
    (bytes.length ≤ p → exec .rxdataRead s = .next (finish ((hostError .overread s).driving 0#16))) ∧
    (s.port.wide = false → ∀ d, bytes[p]? = some d →
      exec .rxdataRead s = .next (finish ((past (p + 1)).driving (0#8 ++ d)))) ∧
    (s.port.wide = true → ∀ d e, bytes[p]? = some d → bytes[p + 1]? = some e →
      exec .rxdataRead s = .next (finish ((past (p + 2)).driving (e ++ d)))) ∧
    (s.port.wide = true → ∀ d, bytes[p]? = some d → bytes[p + 1]? = none →
      exec .rxdataRead s = .next (finish ((hostError .overread (past (p + 1))).driving (0#8 ++ d)))) ∧
    ∀ data : Word, exec (.registerWrite 0x0F#6 data) s = .next (finish (hostError .readOnly s).undriven)

/-! ## The sweep's and the line's commands -/

/-- SWEEP_START: BAD_ARGUMENT, WRONG_STATE, or the sweep record set; a wake. SWEEP_STOP, by the sweep's state: WRONG_STATE, ended at
once with SWEEP_DONE(STOPPED) at the cursor, or STOPPING. CVAL holds the sweep state code. -/
def Obligations.SweepCommandRule : Prop :=
  (∀ s : State, s.port.inReset = false →
     let first := s.port.carg0.toNat
     let last := s.port.carg1.toNat
     let auto := s.port.carg2.toNat
     (first = 0 ∨ 127 ≤ last ∨ last < first ∨ 1 < auto →
       exec .sweepStart s = .next (finish (s.answered 0x40#8 .badArgument s.sweep.state.code))) ∧
     (1 ≤ first → first ≤ last → last ≤ 126 → auto ≤ 1 → s.sweep.state ≠ .idle →
       exec .sweepStart s = .next (finish (s.answered 0x40#8 .wrongState s.sweep.state.code))) ∧
     (1 ≤ first → first ≤ last → last ≤ 126 → auto ≤ 1 → s.sweep.state = .idle →
       let begun : Sweep := { state := .active, cursor := first, last := last, autoAdd := decide (auto = 1), outstanding := false }
       exec .sweepStart s = .next (finish ((wake { s with sweep := begun }).answered 0x40#8 .ok 1)))) ∧
  ∀ s : State, s.port.inReset = false →
    (s.sweep.state = .idle → exec .sweepStop s = .next (finish (s.answered 0x41#8 .wrongState 0))) ∧
    (s.sweep.state = .active → s.sweep.outstanding = false →
      exec .sweepStop s = .next (finish (({ s with sweep := { s.sweep with state := .idle } }.posting
        [plainEvent .sweepDone s.sweep.cursor 0#8 2]).answered 0x41#8 .ok 0))) ∧
    (s.sweep.state = .active → s.sweep.outstanding = true →
      exec .sweepStop s = .next (finish ({ s with sweep := { s.sweep with state := .stopping } }.answered 0x41#8 .pending 2))) ∧
    (s.sweep.state = .stopping → exec .sweepStop s = .next (finish (s.answered 0x41#8 .pending 2)))

/-- LINE_START: RUNNING with CVAL 1 from every state, the contention count 0 from STOPPED and FAULTED; always a wake. LINE_HALT:
STOPPED at once with LINE_STOPPED(HALT) if the engine is IDLE, otherwise DRAINING. -/
def Obligations.LineStartAndHaltRule : Prop :=
  (∀ s : State, s.port.inReset = false →
     (s.line.state = .stopped ∨ s.line.state = .faulted →
       exec .lineStart s = .next (finish ((wake { s with
         line := { s.line with state := .running, contCount := 0 } }).answered 0x50#8 .ok 1))) ∧
     (s.line.state = .running → exec .lineStart s = .next (finish ((wake s).answered 0x50#8 .ok 1))) ∧
     (s.line.state = .draining → exec .lineStart s = .next (finish ((wake { s with
       line := { s.line with state := .running } }).answered 0x50#8 .ok 1)))) ∧
  ∀ s : State, s.port.inReset = false →
    (s.line.state = .running → s.engine.state = .idle →
      exec .lineHalt s = .next (finish (({ s with line := { s.line with state := .stopped } }.posting
        [plainEvent .lineStopped 0 0#8 1]).answered 0x51#8 .ok 0))) ∧
    (s.line.state = .running → s.engine.state ≠ .idle →
      exec .lineHalt s = .next (finish ({ s with line := { s.line with state := .draining } }.answered 0x51#8 .pending 2))) ∧
    (s.line.state = .draining → exec .lineHalt s = .next (finish (s.answered 0x51#8 .pending 2))) ∧
    (s.line.state = .stopped → exec .lineHalt s = .next (finish (s.answered 0x51#8 .ok 0))) ∧
    (s.line.state = .faulted → exec .lineHalt s = .next (finish (s.answered 0x51#8 .ok 3)))

/-- LINE_ABORT: in RUNNING and DRAINING the exchange, if there is one, is abandoned with cause ABORT, the quiet request is
dropped, and the line is STOPPED with LINE_STOPPED(ABORT) behind the abandonment's records; elsewhere nothing. -/
def Obligations.LineAbortRule : Prop :=
  ∀ (rxdHigh : Bool) (s : State), s.port.inReset = false →
    (s.line.state = .running ∨ s.line.state = .draining →
      let cut := abandon .abort rxdHigh s
      exec (.lineAbort rxdHigh) s = .next (finish (({ cut with
        line := { cut.line with state := .stopped, quiet := none } }.posting
          [plainEvent .lineStopped 0 0#8 2]).answered 0x52#8 .ok 0)) ∧
      (s.engine.record = none → cut = s)) ∧
    (s.line.state = .stopped → exec (.lineAbort rxdHigh) s = .next (finish (s.answered 0x52#8 .ok 0))) ∧
    (s.line.state = .faulted → exec (.lineAbort rxdHigh) s = .next (finish (s.answered 0x52#8 .ok 3)))

/-- The abandonment path, by the kind of the exchange: the framer stops at once, EXCHANGE_ABORTED is posted first, the buffers
and the table take it without a miss, a RETIRING target retires, the sweep keeps its cursor, and the engine enters IDLE. -/
def Obligations.AbandonmentRule : Prop :=
  ∀ (c : Cause) (rxdHigh : Bool) (s : State) (r : InFlight), s.engine.record = some r →
    let idle := { s with
      engine := {}
      line := { s.line with quiet := none }
      framer := { s.framer with
        mode := .watch
        driverEnable := false
        tx := none
        guardEnd := none
        gap := none
        rx := if s.framer.mode = .echo then (if rxdHigh then .idle else .low s.now) else s.framer.rx } }
    (∀ (i : EntryIx) (b d : BufIx), r.exch = .poll i b → s.pool.reserved = some d →
      let freed := { bufferFreed idle with pool := { s.pool with reserved := none } }
      let aborted := entryEvent .exchangeAborted i s.table[i].address 0#8 (256 + c.code)
      (s.table[i].state ≠ .retiring → abandon c rxdHigh s =
        { freed with table := s.table.set i { s.table[i] with inFlight := false } }.posting [aborted]) ∧
      (s.table[i].state = .retiring → s.pool.outbound[i] = [] → abandon c rxdHigh s =
        { freed with table := s.table.set i {} }.posting
          [aborted, entryEvent .stationRetired i s.table[i].address 0#8 0])) ∧
    (∀ (i : EntryIx) (b : BufIx), r.exch = .deliver i b →
      let a := s.table[i].address
      let id := s.pool.buffers[b].msgId
      let aborted := entryEvent .exchangeAborted i a id (512 + c.code)
      let advanced := if s.pool.buffers[b].transmitted then s.table[i].nextNum + 1#3 else s.table[i].nextNum
      let requeued := s.pool.buffers.set b { s.pool.buffers[b] with mark := .queued }
      (s.table[i].state ≠ .retiring → s.pool.buffers[b].mark ≠ .cancelPending → abandon c rxdHigh s =
        { idle with
          table := s.table.set i { s.table[i] with inFlight := false }
          pool := { s.pool with buffers := requeued } }.posting [aborted]) ∧
      (s.table[i].state ≠ .retiring → s.pool.buffers[b].mark = .cancelPending → abandon c rxdHigh s =
        { bufferFreed idle with
          table := s.table.set i { s.table[i] with inFlight := false, nextNum := advanced }
          pool := { s.pool with outbound := s.pool.outbound.set i (s.pool.outbound[i].erase b) } }.posting
            [aborted, entryEvent .cancelled i a id 1]) ∧
      (s.table[i].state = .retiring → s.pool.buffers[b].mark ≠ .cancelPending → s.pool.outbound[i] = [b] →
        abandon c rxdHigh s =
        { bufferFreed idle with
          table := s.table.set i {}
          pool := { s.pool with buffers := requeued, outbound := s.pool.outbound.set i [] } }.posting
            [aborted, entryEvent .cancelled i a id 2, entryEvent .stationRetired i a 0#8 0]) ∧
      (s.table[i].state = .retiring → s.pool.buffers[b].mark = .cancelPending → s.pool.outbound[i] = [b] →
        abandon c rxdHigh s =
        { bufferFreed idle with
          table := s.table.set i {}
          pool := { s.pool with outbound := s.pool.outbound.set i [] } }.posting
            [aborted, entryEvent .cancelled i a id 1, entryEvent .stationRetired i a 0#8 0])) ∧
    (∀ a : Nat, r.exch = .probe a →
      let aborted := plainEvent .exchangeAborted a 0#8 (768 + c.code)
      (s.sweep.state ≠ .stopping →
        abandon c rxdHigh s = { idle with sweep := { s.sweep with outstanding := false } }.posting [aborted]) ∧
      (s.sweep.state = .stopping → abandon c rxdHigh s =
        { idle with sweep := { s.sweep with outstanding := false, state := .idle } }.posting
          [aborted, plainEvent .sweepDone s.sweep.cursor 0#8 2])) ∧
    (∀ b : BufIx, r.exch = .broadcast b → abandon c rxdHigh s =
      { idle with
        pool := { s.pool with buffers := s.pool.buffers.set b { s.pool.buffers[b] with mark := .queued } } }.posting
          [plainEvent .exchangeAborted 127 s.pool.buffers[b].msgId (1024 + c.code)]) ∧
    c.code = (match c with | .abort => 1 | .fault => 2 | .cancel => 3 | .retire => 4)

/-! ## The host port -/

/-- A read of EVPOP: NONE from an empty queue with nothing changed; otherwise the head's code, the head in the view, and an
EVENTS_LOST record at the tail for postings that were lost; and the code of each event. A write is read-only. The upper half of the
data lines, which 8-bit mode does not drive, stands as 0 in the model (log 20). -/
def Obligations.EvpopRule : Prop :=
  ∀ s : State, s.port.inReset = false →
    (s.events.records = [] → exec .evpopRead s = .next (finish (s.driving 0#16))) ∧
    (∀ (e : Event) (rest : List Event), s.events.records = e :: rest →
      (s.events.lost = 0 → exec .evpopRead s = .next (finish ({ s with
        events := { s.events with records := rest, view := some e } }.driving (0#8 ++ e.code.code)))) ∧
      (s.events.lost ≠ 0 → exec .evpopRead s = .next (finish ({ s with
        events := { s.events with
          records := rest ++ [plainEvent .eventsLost 0 0#8 s.events.lost]
          lost := 0
          view := some e } }.driving (0#8 ++ e.code.code))))) ∧
    (∀ data : Word, exec (.registerWrite 0x10#6 data) s = .next (finish (hostError .readOnly s).undriven)) ∧
    ∀ c : EventCode, c.code = (match c with
      | .delivered => 0x11#8 | .deliveryFailed => 0x12#8 | .cancelled => 0x13#8 | .broadcastSent => 0x14#8
      | .stationOnline => 0x21#8 | .stationLost => 0x22#8 | .stationFound => 0x23#8 | .stationRetired => 0x24#8
      | .sweepFound => 0x31#8 | .sweepAdded => 0x32#8 | .sweepNoRoom => 0x33#8 | .sweepConflict => 0x34#8
      | .sweepDone => 0x35#8 | .poolExhausted => 0x41#8 | .lineStopped => 0x42#8 | .lineFault => 0x43#8
      | .exchangeAborted => 0x44#8 | .eventsLost => 0xF1#8 | .resetDone => 0xF2#8)

/-- What the register window reads. WINDATA (R192, R193): each of the eighteen fields of an entry by its WINFLD, a ring slot, and 0
with the selection out of range. A read of an 8-bit register or of STGDATA drives its byte with 0x00 above and changes nothing, the
table's own reads are the reads of their addresses, and in reset a read drives nothing (R184, R185, R187; that such a read is no step
is log 25, and the 0x00 on the undriven lines of 8-bit mode log 20). Then what each 8-bit register reads (R132, R178, R189, R190,
R195). -/
def Obligations.WindowReads : Prop :=
  ∀ s : State,
    (∀ i : EntryIx, s.port.winsel = 0#8 → s.port.winidx.toNat = i.val →
      let e := s.table[i]
      let flag := fun b : Bool => if b then 1#16 else 0#16
      (s.port.winfld = 0#8 → windowValue s = (match e.state with
        | .empty => 0#16 | .new => 1#16 | .online => 2#16 | .suspect => 3#16 | .lost => 4#16 | .parked => 5#16
        | .retiring => 6#16)) ∧
      (s.port.winfld = 1#8 → windowValue s = BitVec.ofNat 16 e.address) ∧
      (s.port.winfld = 2#8 → windowValue s = flag e.holdOnLoss) ∧
      (s.port.winfld = 3#8 → windowValue s = flag e.urgentOnMore) ∧
      (s.port.winfld = 4#8 → windowValue s = flag e.ident.isSome) ∧
      (s.port.winfld = 5#8 → windowValue s = (match e.ident with | none => 0#16 | some d => 0#8 ++ d.stationType)) ∧
      (s.port.winfld = 6#8 → windowValue s = (match e.ident with | none => 0#16 | some d => d.serial)) ∧
      (s.port.winfld = 7#8 → windowValue s = BitVec.ofNat 16 e.miss) ∧
      (s.port.winfld = 8#8 → windowValue s = BitVec.ofNat 16 e.nextNum.toNat) ∧
      (s.port.winfld = 9#8 → windowValue s = flag e.fresh) ∧
      (s.port.winfld = 10#8 → windowValue s = (match e.lastTaken with | none => 0xFF#16 | some n => BitVec.ofNat 16 n.toNat)) ∧
      (s.port.winfld = 11#8 → windowValue s = BitVec.ofNat 16 e.backoff) ∧
      (s.port.winfld = 12#8 → windowValue s = BitVec.ofNat 16 s.pool.outbound[i].length) ∧
      (s.port.winfld = 13#8 → windowValue s = flag e.inFlight) ∧
      (s.port.winfld = 14#8 → windowValue s = flag e.urgentListed) ∧
      (s.port.winfld = 15#8 → windowValue s = BitVec.ofNat 16 e.goodCount) ∧
      (s.port.winfld = 16#8 → windowValue s = BitVec.ofNat 16 e.failCount) ∧
      (s.port.winfld = 17#8 → windowValue s = BitVec.ofNat 16 e.dupCount)) ∧
    (∀ k : SlotIx, s.port.winsel = 1#8 → s.port.winidx.toNat = k.val →
      windowValue s = (match s.sched.ring[k] with | none => 0xFF#16 | some i => BitVec.ofNat 16 i.val)) ∧
    (s.port.winsel = 0#8 → 31 < s.port.winidx.toNat ∨ 17 < s.port.winfld.toNat →
      selection s.port = .outOfRange ∧ windowValue s = 0#16) ∧
    (s.port.winsel = 1#8 → 63 < s.port.winidx.toNat → selection s.port = .outOfRange ∧ windowValue s = 0#16) ∧
    (s.port.inReset = true → ∀ a : BitVec 6, busRead a s = s) ∧
    (s.port.inReset = false →
      (∀ a : BitVec 6, a ∉ ([0x0C#6, 0x0D#6, 0x0F#6, 0x10#6, 0x14#6, 0x15#6, 0x26#6, 0x27#6, 0x3A#6, 0x3B#6, 0x3C#6, 0x3D#6] :
          List (BitVec 6)) →
        busRead a s = finish (s.driving (0#8 ++ registerValue a s))) ∧
      exec .rxdataRead s = .next (busRead 0x0F#6 s) ∧ exec .evpopRead s = .next (busRead 0x10#6 s) ∧
      exec .windataRead s = .next (busRead 0x0C#6 s) ∧
      ∀ p ∈ ([(.windata, 0x0C#6), (.evdetail, 0x14#6), (.passcnt, 0x26#6), (.noisecnt, 0x3A#6), (.straycnt, 0x3C#6)] :
          List (WideReg × BitVec 6)),
        exec (.wideRegisterRead p.1 false) s = .next (busRead p.2 s) ∧
        exec (.wideRegisterRead p.1 true) s = .next (busRead (p.2 + 1#6) s)) ∧
    let reads := fun (a : BitVec 6) (v : Byte) => registerValue a s = v
    let count := fun n : Nat => (BitVec.ofNat 8 n : Byte)
    let flag := fun b : Bool => BitVec.ofBool b
    let lineCode : BitVec 2 := match s.line.state with
      | .stopped => 0#2 | .running => 1#2 | .draining => 2#2 | .faulted => 3#2
    let sweepCode : BitVec 2 := match s.sweep.state with | .idle => 0#2 | .active => 1#2 | .stopping => 2#2
    reads 0x00#6 (flag s.sched.exhausted ++ flag s.port.latch.flag ++ flag (decide (s.params.inqThr ≤ s.pool.inbound.length)) ++
      flag (decide (s.events.records ≠ [])) ++ sweepCode ++ lineCode) ∧
    reads 0x01#6 s.port.cmd ∧ reads 0x02#6 s.port.carg0 ∧ reads 0x03#6 s.port.carg1 ∧ reads 0x04#6 s.port.carg2 ∧
    reads 0x05#6 s.port.carg3 ∧
    reads 0x06#6 (match s.port.cres with
      | .ok => 0#8 | .pending => 1#8 | .tooLate => 2#8 | .tableFull => 3#8 | .duplicateAddress => 4#8 | .badAddress => 5#8
      | .badEntry => 6#8 | .badArgument => 7#8 | .wrongState => 8#8 | .noBuffer => 9#8 | .nothingStaged => 10#8
      | .noStation => 11#8 | .stationLost => 12#8 | .stationQueueFull => 13#8 | .broadcastFull => 14#8 | .listFull => 15#8
      | .notFound => 16#8 | .queueEmpty => 17#8 | .nothingOpen => 18#8 | .unknownCommand => 19#8) ∧
    reads 0x07#6 s.port.cval ∧ reads 0x08#6 s.port.winsel ∧ reads 0x09#6 s.port.winidx ∧ reads 0x0A#6 s.port.winfld ∧
    reads 0x0E#6 (count s.port.stagePtr) ∧
    (s.events.view = none → reads 0x11#6 0x00#8 ∧ reads 0x12#6 0xFF#8 ∧ reads 0x13#6 0x00#8 ∧ reads 0x16#6 0x00#8) ∧
    (∀ e : Event, s.events.view = some e →
      reads 0x11#6 e.code.code ∧ reads 0x12#6 (match e.entry with | none => 0xFF#8 | some i => count i.val) ∧
      reads 0x13#6 (count e.address) ∧ reads 0x16#6 e.id) ∧
    reads 0x17#6 (count s.events.records.length) ∧ reads 0x18#6 (count s.events.lost) ∧ reads 0x19#6 s.events.filter ∧
    (s.PoolLaw → reads 0x1D#6 (count (24 - s.pool.held.length))) ∧ reads 0x1E#6 (count s.pool.inbound.length) ∧
    reads 0x1F#6 (count s.params.inqThr) ∧
    (s.pool.readPort = none →
      reads 0x20#6 0xFF#8 ∧ reads 0x21#6 0x00#8 ∧ reads 0x22#6 0xFF#8 ∧ reads 0x23#6 0x00#8 ∧ reads 0x24#6 0x00#8) ∧
    (∀ b : BufIx, s.pool.readPort = some b →
      let m := s.pool.buffers[b]
      reads 0x20#6 (count m.srcEntry.val) ∧ reads 0x21#6 (count m.srcAddr) ∧ reads 0x22#6 (count m.reportNum.toNat) ∧
      reads 0x23#6 (count m.payload.length) ∧ reads 0x24#6 (if m.packed then 1#8 else 0#8)) ∧
    reads 0x25#6 (count s.params.ringLen) ∧ reads 0x28#6 (count s.sched.pointer.val) ∧ reads 0x29#6 (count s.params.pace) ∧
    reads 0x2A#6 (count s.params.recover) ∧ reads 0x2B#6 (count s.params.retries) ∧ reads 0x2C#6 (count s.params.lostLim) ∧
    reads 0x2D#6 (count s.params.busyLim) ∧ reads 0x2E#6 (count s.params.backoff) ∧ reads 0x2F#6 (count s.params.maxq) ∧
    reads 0x30#6 (count s.params.reserve) ∧ reads 0x31#6 (count s.line.cfg.lrate) ∧ reads 0x32#6 (count s.line.cfg.lguard) ∧
    reads 0x33#6 (count s.line.cfg.lreply) ∧ reads 0x34#6 (count s.line.cfg.lgap) ∧ reads 0x35#6 (count s.line.cfg.lsettle) ∧
    reads 0x36#6 s.line.cfg.lopt ∧ reads 0x37#6 (count s.line.cfg.contlim) ∧ reads 0x38#6 (count s.line.contCount) ∧
    reads 0x39#6 (count s.sweep.cursor) ∧ reads 0x3E#6 (count s.sweep.last) ∧
    reads 0x3F#6 (if s.sweep.autoAdd then 1#8 else 0#8)

/-- Reads of the 16-bit registers and of WINDATA (R186, R193): the lower address loads the read hold with the high byte under
the register's name, and the upper address is answered from a hold of that name, which empties, or from the register. BAD_INDEX
is raised where the selection is out of range; an upper read answered from the hold raises nothing (log 8). The upper half of the
data lines, which 8-bit mode does not drive, stands as 0 in the model (log 20). -/
def Obligations.WideRegisterReadRule : Prop :=
  ∀ (r : WideReg) (s : State), s.port.inReset = false →
    let v := wideValue r s
    v = (match r with
      | .windata => windowValue s
      | .evdetail => (match s.events.view with | none => 0#16 | some e => e.detail)
      | .passcnt => s.sched.passCount
      | .noisecnt => BitVec.ofNat 16 s.line.noise
      | .straycnt => BitVec.ofNat 16 s.line.stray) ∧
    let low : Word := if s.port.wide then v else 0#8 ++ v.extractLsb' 0 8
    let high : Word := 0#8 ++ v.extractLsb' 8 8
    let judged := if r = .windata ∧ selection s.port = .outOfRange then hostError .badIndex s else s
    exec (.wideRegisterRead r false) s = .next (finish (({ judged with
      port := { judged.port with hold := some (r, v.extractLsb' 8 8) } }).driving low)) ∧
    (r = .windata → exec .windataRead s = exec (.wideRegisterRead r false) s) ∧
    (∀ b, s.port.hold = some (r, b) →
      exec (.wideRegisterRead r true) s = .next (finish ({ s with port := { s.port with hold := none } }.driving (0#8 ++ b)))) ∧
    ((∀ b, s.port.hold ≠ some (r, b)) → exec (.wideRegisterRead r true) s = .next (finish (judged.driving high)))

/-- A write of the lower address of WINDATA, judged in the order of R194: BAD_INDEX, READ_ONLY, BAD_VALUE, and otherwise the
option or the slot takes the value at once; a ring write is a wake. A write of its upper address is READ_ONLY. -/
def Obligations.WindataWriteRule : Prop :=
  ∀ (data : Word) (s : State), s.port.inReset = false →
    let v : Nat := if s.port.wide then data.toNat else data.toNat % 256
    exec (.registerWrite 0x0D#6 data) s = .next (finish (hostError .readOnly s).undriven) ∧
    (selection s.port = .outOfRange → exec (.windataWrite data) s = .next (finish (hostError .badIndex s).undriven)) ∧
    (∀ i : EntryIx, s.port.winsel = 0#8 → s.port.winidx.toNat = i.val → s.port.winfld.toNat ≤ 17 →
      (s.table[i].state = .empty ∨ (s.port.winfld ≠ 2#8 ∧ s.port.winfld ≠ 3#8) →
        exec (.windataWrite data) s = .next (finish (hostError .readOnly s).undriven)) ∧
      (s.table[i].state ≠ .empty → s.port.winfld = 2#8 ∨ s.port.winfld = 3#8 → 1 < v →
        exec (.windataWrite data) s = .next (finish (hostError .badValue s).undriven)) ∧
      (s.table[i].state ≠ .empty → s.port.winfld = 2#8 → v ≤ 1 →
        exec (.windataWrite data) s = .next (finish ({ s with
          table := s.table.set i { s.table[i] with holdOnLoss := decide (v = 1) } }.undriven))) ∧
      (s.table[i].state ≠ .empty → s.port.winfld = 3#8 → v ≤ 1 →
        exec (.windataWrite data) s = .next (finish ({ s with
          table := s.table.set i { s.table[i] with urgentOnMore := decide (v = 1) } }.undriven)))) ∧
    ∀ k : SlotIx, s.port.winsel = 1#8 → s.port.winidx.toNat = k.val →
      (32 ≤ v → v ≠ 255 → exec (.windataWrite data) s = .next (finish (hostError .badValue s).undriven)) ∧
      (v = 255 → exec (.windataWrite data) s = .next (finish ((wake { s with
        sched := { s.sched with ring := s.sched.ring.set k none } }).undriven))) ∧
      ∀ i : EntryIx, v = i.val → exec (.windataWrite data) s = .next (finish ((wake { s with
        sched := { s.sched with ring := s.sched.ring.set k (some i) } }).undriven))

/-- The host-error latch: how an error is taken; how HERR shows the flag in bit 7 and the first code in bits 3 to 0, HERRCNT the count
and STATUS the flag in bit 6; and what a write of HERR clears. -/
def Obligations.HostErrorLatchRule : Prop :=
  (∀ (h : HostError) (s : State),
    (s.port.latch.flag = false →
      hostError h s = { s with port := { s.port with latch := { s.port.latch with flag := true, first := some h } } }) ∧
    (s.port.latch.flag = true → s.port.latch.count < 255 →
      hostError h s = { s with port := { s.port with latch := { s.port.latch with count := s.port.latch.count + 1 } } }) ∧
    (s.port.latch.flag = true → 255 ≤ s.port.latch.count →
      hostError h s = { s with port := { s.port with latch := { s.port.latch with count := 255 } } }) ∧
    (registerValue 0x0B#6 (hostError h s)).getLsbD 7 = true ∧ (statusByte (hostError h s)).getLsbD 6 = true) ∧
  (∀ s : State,
    let code : BitVec 4 := match s.port.latch.first with
      | none => 0#4
      | some .overfill => 1#4 | some .overread => 2#4 | some .readOnly => 3#4 | some .badValue => 4#4
      | some .badIndex => 5#4 | some .configLocked => 6#4 | some .unknownCommand => 7#4 | some .noStage => 8#4
    registerValue 0x0B#6 s = BitVec.ofBool s.port.latch.flag ++ 0#3 ++ code ∧
    registerValue 0x1C#6 s = BitVec.ofNat 8 s.port.latch.count ∧ (statusByte s).getLsbD 6 = s.port.latch.flag) ∧
  (∀ (data : Word) (s : State), s.port.inReset = false →
    (data.getLsbD 7 = true → exec (.herrWrite data) s = .next (finish ({ s with
      port := { s.port with latch := { s.port.latch with flag := false, count := 0 } } }.undriven))) ∧
    (data.getLsbD 7 = false → exec (.herrWrite data) s = .next (finish s.undriven)) ∧
    exec (.registerWrite 0x1C#6 data) s = .next (finish (hostError .readOnly s).undriven)) ∧
  HostError.overfill.code = 1 ∧ HostError.overread.code = 2 ∧ HostError.readOnly.code = 3 ∧ HostError.badValue.code = 4 ∧
  HostError.badIndex.code = 5 ∧ HostError.configLocked.code = 6 ∧ HostError.unknownCommand.code = 7 ∧ HostError.noStage.code = 8

/-- The enable mask and the interrupt line: INTSET sets and INTCLR clears, a value with any of bits 7 to 3 is BAD_VALUE, both read
the mask, and the line is asserted while an enabled source holds. -/
def Obligations.InterruptEnableRule : Prop :=
  (∀ (data : Word) (s : State), s.port.inReset = false →
    let v := data.toNat % 256
    (8 ≤ v →
      exec (.intsetWrite data) s = .next (finish (hostError .badValue s).undriven) ∧
      exec (.intclrWrite data) s = .next (finish (hostError .badValue s).undriven)) ∧
    (v < 8 → ∃ m n : BitVec 3,
      exec (.intsetWrite data) s = .next (finish ({ s with port := { s.port with mask := m } }.undriven)) ∧
      exec (.intclrWrite data) s = .next (finish ({ s with port := { s.port with mask := n } }.undriven)) ∧
      ∀ k < 3, m.getLsbD k = (s.port.mask.getLsbD k || data.getLsbD k) ∧
        n.getLsbD k = (s.port.mask.getLsbD k && !data.getLsbD k))) ∧
  ∀ s : State,
    registerValue 0x1A#6 s = 0#5 ++ s.port.mask ∧ registerValue 0x1B#6 s = 0#5 ++ s.port.mask ∧
    (irqAsserted s = true ↔ s.port.inReset = false ∧
      ((s.port.mask.getLsbD 0 = true ∧ s.events.records ≠ []) ∨
        (s.port.mask.getLsbD 1 = true ∧ s.params.inqThr ≤ s.pool.inbound.length) ∨
        (s.port.mask.getLsbD 2 = true ∧ s.port.latch.flag = true)))

/-- Writes of the line configuration registers: CONFIG_LOCKED in RUNNING and DRAINING whatever the value, then BAD_VALUE out of
range, and otherwise the register; an LRATE write also drops a character in assembly, and leaves a break being timed as it is
(log 30). -/
def Obligations.LineConfigRule : Prop :=
  ∀ (data : Word) (s : State), s.port.inReset = false →
    let b : Byte := data.extractLsb' 0 8
    let v := b.toNat
    let taken := fun (r : LineReg) (cfg : LineConfig) =>
      exec (.lineConfigWrite r data) s = .next (finish ({ s with line := { s.line with cfg := cfg } }.undriven))
    let refused := fun (r : LineReg) => exec (.lineConfigWrite r data) s = .next (finish (hostError .badValue s).undriven)
    (s.line.state = .running ∨ s.line.state = .draining → ∀ r,
      exec (.lineConfigWrite r data) s = .next (finish (hostError .configLocked s).undriven)) ∧
    (s.line.state = .stopped ∨ s.line.state = .faulted →
      (7 < v → refused .lrate) ∧ (31 < v → refused .lguard) ∧ (v = 0 ∨ 63 < v → refused .lreply) ∧
      (v = 0 ∨ 7 < v → refused .lgap) ∧ (v = 0 ∨ 15 < v → refused .lsettle) ∧ (v / 4 % 32 ≠ 0 → refused .lopt) ∧
      (v = 0 ∨ 7 < v → refused .contlim) ∧
      (v ≤ 31 → taken .lguard { s.line.cfg with lguard := v }) ∧
      (1 ≤ v → v ≤ 63 → taken .lreply { s.line.cfg with lreply := v }) ∧
      (1 ≤ v → v ≤ 7 → taken .lgap { s.line.cfg with lgap := v }) ∧
      (1 ≤ v → v ≤ 15 → taken .lsettle { s.line.cfg with lsettle := v }) ∧
      (v / 4 % 32 = 0 → taken .lopt { s.line.cfg with lopt := b }) ∧
      (1 ≤ v → v ≤ 7 → taken .contlim { s.line.cfg with contlim := v }) ∧
      (v ≤ 7 → exec (.lineConfigWrite .lrate data) s = .next (finish ({ s with
        line := { s.line with cfg := { s.line.cfg with lrate := v } }
        framer := { s.framer with
          rx := match s.framer.rx with
            | .assembling _ _ => .idle
            | other => other } }.undriven))))

/-- Writes of the protocol parameters: taken in range, BAD_VALUE out of range; RINGLEN's is a wake. -/
def Obligations.ParameterWrites : Prop :=
  ∀ (data : Word) (s : State), s.port.inReset = false →
    let b : Byte := data.extractLsb' 0 8
    let v := b.toNat
    let refused := fun c : Instr => exec c s = .next (finish (hostError .badValue s).undriven)
    let taken := fun (c : Instr) (p : Params) => exec c s = .next (finish ({ s with params := p }.undriven))
    (v = 0 ∨ 64 < v → refused (.ringlenWrite data)) ∧
    (1 ≤ v → v ≤ 64 → exec (.ringlenWrite data) s =
      .next (finish ((wake { s with params := { s.params with ringLen := v } }).undriven))) ∧
    (v = 0 ∨ 24 < v → refused (.inqthrWrite data)) ∧
    (1 ≤ v → v ≤ 24 → taken (.inqthrWrite data) { s.params with inqThr := v }) ∧
    (16 ≤ v → refused (.evfilterWrite data)) ∧
    (v < 16 → exec (.evfilterWrite data) s = .next (finish ({ s with events := { s.events with filter := b } }.undriven))) ∧
    taken (.registerWrite 0x29#6 data) { s.params with pace := v } ∧
    (v = 0 ∨ 15 < v → refused (.registerWrite 0x2A#6 data) ∧ refused (.registerWrite 0x2C#6 data) ∧
      refused (.registerWrite 0x2D#6 data) ∧ refused (.registerWrite 0x2E#6 data)) ∧
    (1 ≤ v → v ≤ 15 → taken (.registerWrite 0x2A#6 data) { s.params with recover := v } ∧
      taken (.registerWrite 0x2C#6 data) { s.params with lostLim := v } ∧
      taken (.registerWrite 0x2D#6 data) { s.params with busyLim := v } ∧
      taken (.registerWrite 0x2E#6 data) { s.params with backoff := v }) ∧
    (7 < v → refused (.registerWrite 0x2B#6 data)) ∧
    (v ≤ 7 → taken (.registerWrite 0x2B#6 data) { s.params with retries := v }) ∧
    (v = 0 ∨ 8 < v → refused (.registerWrite 0x2F#6 data)) ∧
    (1 ≤ v → v ≤ 8 → taken (.registerWrite 0x2F#6 data) { s.params with maxq := v }) ∧
    (8 < v → refused (.registerWrite 0x30#6 data)) ∧
    (v ≤ 8 → taken (.registerWrite 0x30#6 data) { s.params with reserve := v })

/-- Writes of the remaining registers: the arguments and selectors take the byte, WINSEL only 0 and 1, and every other address is
read-only. An access with both strobes low does nothing. -/
def Obligations.OtherRegisterWrites : Prop :=
  ∀ (data : Word) (s : State), s.port.inReset = false →
    let b : Byte := data.extractLsb' 0 8
    let put := fun (a : BitVec 6) (p : Port) =>
      exec (.registerWrite a data) s = .next (finish ({ s with port := p }.undriven))
    put 0x02#6 { s.port with carg0 := b } ∧ put 0x03#6 { s.port with carg1 := b } ∧ put 0x04#6 { s.port with carg2 := b } ∧
    put 0x05#6 { s.port with carg3 := b } ∧ put 0x09#6 { s.port with winidx := b } ∧ put 0x0A#6 { s.port with winfld := b } ∧
    (b.toNat ≤ 1 → put 0x08#6 { s.port with winsel := b }) ∧
    (1 < b.toNat → exec (.registerWrite 0x08#6 data) s = .next (finish (hostError .badValue s).undriven)) ∧
    (∀ a ∈ ([0x00#6, 0x06#6, 0x07#6, 0x0D#6, 0x0F#6, 0x10#6, 0x11#6, 0x12#6, 0x13#6, 0x14#6, 0x15#6, 0x16#6, 0x17#6, 0x18#6,
        0x1C#6, 0x1D#6, 0x1E#6, 0x20#6, 0x21#6, 0x22#6, 0x23#6, 0x24#6, 0x26#6, 0x27#6, 0x28#6, 0x38#6, 0x39#6, 0x3A#6,
        0x3B#6, 0x3C#6, 0x3D#6, 0x3E#6, 0x3F#6] : List (BitVec 6)),
      exec (.registerWrite a data) s = .next (finish (hostError .readOnly s).undriven)) ∧
    exec .droppedAccess s = .next (finish s.undriven)

/-! ## The line framer

The moments of these statements are in the clock of log 1: `half` is half a bit time at the rate in force, a character time is 20
of it, and a step never turns the clock back. -/

/-- START_EDGE and START_EDGE_CHECK: a falling edge is a start edge only for a receiver that looks for one; its time is marked and
the gap timer stops. High at the middle of the start bit is a false start, after which the gap timer stays stopped (log 9); low in
WATCH is an activity notice. An edge that is no start edge changes nothing (log 6). -/
def Obligations.StartEdgeRule : Prop :=
  ∀ s : State, s.port.inReset = false →
    let half := Config.halfBit s.line.cfg.lrate
    (∀ wait : Nat, s.framer.rx = .idle → s.framer.mode ≠ .echo →
      exec (.startEdge wait) s = .next (finish { s with
        now := s.now + wait
        framer := { s.framer with rx := .assembling (s.now + wait) false, gap := none } })) ∧
    (∀ wait : Nat, s.framer.rx ≠ .idle ∨ s.framer.mode = .echo → exec (.startEdge wait) s = .next (finish s)) ∧
    ∀ edge : Nat, s.framer.rx = .assembling edge false →
      let time := max s.now (edge + half)
      let passed := { s with now := time, framer := { s.framer with rx := .assembling edge true } }
      exec (.startEdgeCheck true) s = .next (finish { s with now := time, framer := { s.framer with rx := .idle } }) ∧
      (s.framer.mode ≠ .watch ∨ s.line.quiet = none → exec (.startEdgeCheck false) s = .next (finish passed)) ∧
      ∀ q : Quiet, s.framer.mode = .watch → s.line.quiet = some q →
        let moved : Quiet := { q with quietAt := time + s.line.cfg.lsettle * (20 * half) }
        exec (.startEdgeCheck false) s = .next (finish { passed with line := { s.line with quiet := some moved } })

/-- Characters that belong to no frame: a stray one is counted and gives an activity notice, a noise one is counted, a discarded
one only restarts the gap timer. After a framing error the receiver waits for RXD high, forms one break character for each
character time of RXD low, handled in the mode in force, and looks for a start edge again once RXD has been high for a bit time.
That a shorter high does not start a break character's time afresh is log 32. -/
def Obligations.CharactersOutsideAFrame : Prop :=
  ∀ s : State, s.port.inReset = false →
    let half := Config.halfBit s.line.cfg.lrate
    let notice : Nat → Option Quiet := fun t =>
      s.line.quiet.map fun q => { q with quietAt := t + s.line.cfg.lsettle * (20 * half) }
    (∀ (edge : Nat) (checked : Bool) (data : Byte) (stop : Bool), s.framer.rx = .assembling edge checked →
      let time := max s.now (edge + 19 * half)
      let after : Receiver := if stop then .idle else .low time
      (s.framer.mode = .watch → exec (.strayCharacter data stop) s = .next (finish { s with
        now := time
        framer := { s.framer with rx := after }
        line := { s.line with stray := min 65535 (s.line.stray + 1), quiet := notice time } })) ∧
      (s.framer.mode = .hunt → data ≠ 0xB4#8 ∨ stop = false → exec (.huntCharacter data stop) s = .next (finish { s with
        now := time
        framer := { s.framer with rx := after }
        line := { s.line with noise := min 65535 (s.line.noise + 1) } })) ∧
      (s.framer.mode = .discard → exec (.discardCharacter data stop) s = .next (finish { s with
        now := time
        framer := { s.framer with
          rx := after
          gap := if stop then some (time + s.line.cfg.lgap * (20 * half)) else none } }))) ∧
    ∀ since : Nat, s.framer.rx = .low since →
      let time := max s.now (since + 20 * half)
      let on : Framer := { s.framer with rx := .low time }
      (s.framer.mode = .watch → exec .breakCharacter s = .next (finish { s with
        now := time
        framer := on
        line := { s.line with stray := min 65535 (s.line.stray + 1), quiet := notice time } })) ∧
      (s.framer.mode = .hunt → exec .breakCharacter s = .next (finish { s with
        now := time
        framer := on
        line := { s.line with noise := min 65535 (s.line.noise + 1) } })) ∧
      (s.framer.mode = .collect → exec .breakCharacter s = .next (finish (engineReport .framing { s with
        now := time
        framer := { on with mode := .discard, gap := none } }))) ∧
      (s.framer.mode = .discard → exec .breakCharacter s = .next (finish { s with
        now := time
        framer := { on with gap := none } })) ∧
      ∀ wait : Nat, exec (.receiverRearm wait) s = .next (finish { s with
        now := s.now + wait
        framer := { s.framer with
          rx := .idle
          gap := if s.framer.mode = .collect ∨ s.framer.mode = .discard then
              some (s.now + wait - 2 * half + s.line.cfg.lgap * (20 * half))
            else s.framer.gap } })

/-- The collection of a frame: a LEAD taken in HUNT, then ADDRESS, KIND/TAG, LENGTH, the payload and the two CRC bytes in their
turn, each with what it reports to the engine; a framing error anywhere after the LEAD reports FRAMING from DISCARD. The checker
cleared at a LEAD is 0xFFFF (log 19), and the CRC takes a byte's bits from bit 7 down, each combined with bit 15. -/
def Obligations.CollectionRule : Prop :=
  ∀ (s : State) (edge : Nat) (checked : Bool), s.port.inReset = false → s.framer.rx = .assembling edge checked →
    let half := Config.halfBit s.line.cfg.lrate
    let time := max s.now (edge + 19 * half)
    let gap := some (time + s.line.cfg.lgap * (20 * half))
    let n := s.framer.taken
    let len := s.framer.hdrLength.toNat
    let held := { s with now := time }
    (s.framer.mode = .hunt → exec (.huntCharacter 0xB4#8 true) s = .next (finish (engineReport (.leadTaken edge) { held with
      framer := { s.framer with
        mode := .collect
        rx := .idle
        crcCheck := 0xFFFF#16
        hdrAddress := 0#8
        hdrKindTag := 0#8
        hdrLength := 0#8
        taken := 1
        gap := gap } }))) ∧
    (s.framer.mode = .collect → ∀ data : Byte,
      let on : Framer := { s.framer with rx := .idle, gap := gap }
      let summed : Framer := { on with crcCheck := crcByte s.framer.crcCheck data, taken := n + 1 }
      let next := fun t : State => exec (.collectCharacter data true) s = .next (finish t)
      exec (.collectCharacter data false) s = .next (finish (engineReport .framing { held with
        framer := { s.framer with mode := .discard, rx := .low time, gap := none } })) ∧
      (n = 1 → next { held with framer := { summed with hdrAddress := data } }) ∧
      (n = 2 → next { held with framer := { summed with hdrKindTag := data } }) ∧
      (n = 3 → data.toNat ≤ 48 → next (engineReport .header { held with framer := { summed with hdrLength := data } })) ∧
      (n = 3 → 48 < data.toNat →
        next (engineReport .overlength { held with framer := { summed with hdrLength := data, mode := .discard } })) ∧
      (4 ≤ n → n < 4 + len → next (engineReport (.payloadByte data) { held with framer := summed })) ∧
      (4 ≤ n → n = 4 + len → next { held with framer := { on with crcHigh := data, taken := n + 1 } }) ∧
      (5 ≤ n → n = 5 + len → next (engineReport (.complete (decide (s.framer.crcHigh ++ data = s.framer.crcCheck)))
        { held with framer := { on with mode := .watch, gap := none, taken := n + 1 } }))) ∧
    ∀ (crc : Word) (data : Byte), crcByte crc data = [7, 6, 5, 4, 3, 2, 1, 0].foldl (fun (c : Word) (k : Nat) =>
      if c.getLsbD 15 != data.getLsbD k then (c <<< 1) ^^^ 0x1021#16 else c <<< 1) crc

/-- The echo comparison of a transmitted character at its stop-bit sample: clean, and the next character follows; or a
contention, which the engine and line control both take, and which faults the line at CONTLIM. In RUNNING and DRAINING. Which
report reaches the engine first at CONTLIM is the operand of log 15; the count stops at 7 (log 23), and at the fault the sampled
stop bit is taken as the level of RXD (log 14). -/
def Obligations.EchoComparisonRule : Prop :=
  ∀ (s : State) (x : Transmission) (sent : Byte), s.port.inReset = false → s.framer.tx = some x →
    x.chars[x.compared]? = some sent → x.echoCheck = true → x.contended = false →
    let half := Config.halfBit s.line.cfg.lrate
    let time := max s.now (x.begun + 2 * half + (x.compared + 1) * (20 * half) - half)
    let clean : Transmission := { x with compared := x.compared + 1 }
    let failed : Transmission := { x with contended := true }
    let raised := min 7 (s.line.contCount + 1)
    let cut := { s with
      now := time
      framer := { s.framer with tx := some failed }
      line := { s.line with contCount := raised } }
    (∀ first : Bool, exec (.echoComparison false sent true first) s = .next (finish { s with
      now := time
      framer := { s.framer with tx := some clean } })) ∧
    ∀ (start : Bool) (data : Byte) (stop first : Bool), start = true ∨ data ≠ sent ∨ stop = false →
      s.line.state = .running ∨ s.line.state = .draining →
      (raised < s.line.cfg.contlim →
        exec (.echoComparison start data stop first) s = .next (finish (failAttempt .contention cut))) ∧
      (s.line.cfg.contlim ≤ raised →
        exec (.echoComparison start data stop false) s = .next (finish (lineFault 1#16 stop cut)) ∧
        exec (.echoComparison start data stop true) s =
          .next (finish (lineFault 1#16 stop (failAttempt .contention cut))))

/-- The two ends of a transmission. After a contended character DE drops with no guard, the mode is WATCH and the engine decides.
After the last stop bit of a frame the guard begins, the mode is HUNT or, after a BROADCAST, WATCH, and a clean echo verdict taken
in RUNNING or DRAINING returns the contention count to 0. The receiver leaves ECHO by the level of RXD. With LGUARD 0 DE drops in
the LINE_RELEASE that follows at the same moment (log 17). -/
def Obligations.TransmissionEnds : Prop :=
  ∀ (s : State) (x : Transmission) (rxdHigh : Bool), s.port.inReset = false → s.framer.tx = some x →
    let half := Config.halfBit s.line.cfg.lrate
    (x.contended = true →
      let time := max s.now (x.begun + 2 * half + (x.compared + 1) * (20 * half))
      exec (.contentionStop rxdHigh) s = .next (finish (decision { s with
        now := time
        framer := { s.framer with
          mode := .watch
          driverEnable := false
          tx := none
          rx := if rxdHigh then .idle else .low time } }))) ∧
    ∀ r : InFlight, s.engine.record = some r → x.contended = false → x.chars ≠ [] →
      x.echoCheck = false ∨ x.compared = x.chars.length →
      let time := max s.now (x.begun + 2 * half + x.chars.length * (20 * half))
      let done := { s with
        now := time
        engine := { s.engine with state := .guard }
        framer := { s.framer with
          mode := if r.exch.code = 4 then .watch else .hunt
          tx := none
          guardEnd := some (time + s.line.cfg.lguard * half)
          rx := if rxdHigh then .idle else .low time } }
      (x.echoCheck = false → exec (.frameSent rxdHigh) s = .next (finish done)) ∧
      (x.echoCheck = true → s.line.state = .running ∨ s.line.state = .draining →
        exec (.frameSent rxdHigh) s = .next (finish { done with line := { s.line with contCount := 0 } }))

/-- LINE_RELEASE: DE drops; the reply window of LREPLY character times and the take limit one later begin, and a LEAD already taken
in GUARD is judged by its start edge. After a BROADCAST it is SETTLE for the next repeat, or after the last one the end:
BROADCAST_SENT with the number the frame carried, the message gone from the list, the number advanced. -/
def Obligations.LineReleaseRule : Prop :=
  ∀ (s : State) (t : Nat) (r : InFlight), s.port.inReset = false → s.framer.guardEnd = some t → s.engine.record = some r →
    let half := Config.halfBit s.line.cfg.lrate
    let time := max s.now t
    let window := time + s.line.cfg.lreply * (20 * half)
    let free := { s with now := time, framer := { s.framer with driverEnable := false, guardEnd := none } }
    (r.exch.code ≠ 4 → s.engine.kept = [] → exec .lineRelease s = .next (finish { free with
      engine := { s.engine with state := .await, windowEnd := some window, takeLimit := some (window + 20 * half) } })) ∧
    (∀ edge : Nat, r.exch.code ≠ 4 → s.engine.kept = [.leadTaken edge] → edge ≤ window →
      exec .lineRelease s = .next (finish { free with
        engine := { s.engine with state := .receiving, windowEnd := none, takeLimit := none, kept := [] } })) ∧
    ∀ b : BufIx, r.exch = .broadcast b →
      let again : InFlight := { r with attempt := r.attempt + 1 }
      let ask : Quiet := { quietAt := time + s.line.cfg.lsettle * (20 * half), babbleAt := time + 64 * (20 * half) }
      (r.attempt < s.line.cfg.lopt.toNat % 4 + 1 → exec .lineRelease s = .next (finish { free with
        engine := { s.engine with state := .settle, record := some again }
        line := { s.line with quiet := some ask } })) ∧
      ∀ rest : List BufIx, s.line.cfg.lopt.toNat % 4 + 1 ≤ r.attempt → s.pool.broadcast = b :: rest →
        let number := s.pool.broadcastNum
        let gone := bufferFreed { free with
          pool := { s.pool with
            broadcast := rest
            broadcastNum := if s.pool.buffers[b].transmitted then number + 1#3 else number } }
        exec .lineRelease s = .next (finish (endNotice
          { gone.posting [plainEvent .broadcastSent 127 s.pool.buffers[b].msgId number.toNat] with engine := {} }))

/-- The gap check and the engine's two limits. The gap check ends a collection as TRUNCATED and a discard as quiet, and a stopped
timer does not expire (log 6; after a false start log 9). The take limit fails the attempt with NO_REPLY; the drain limit ends DRAIN; both return the framer to WATCH. -/
def Obligations.LimitsRule : Prop :=
  ∀ s : State, s.port.inReset = false →
    (s.framer.gap = none → exec .gapExpiry s = .next (finish s)) ∧
    (∀ t : Nat, s.framer.gap = some t →
      let quiet := { s with now := max s.now t, framer := { s.framer with mode := .watch, gap := none } }
      (s.framer.mode = .collect → exec .gapExpiry s = .next (finish (engineReport .truncated quiet))) ∧
      (s.framer.mode = .discard → exec .gapExpiry s = .next (finish (engineReport .quietAfterDiscard quiet)))) ∧
    (∀ t : Nat, s.engine.state = .await → s.engine.takeLimit = some t →
      exec .takeLimit s = .next (finish (decision (failAttempt .noReply { s with
        now := max s.now t
        framer := { s.framer with mode := .watch, gap := none } })))) ∧
    ∀ t : Nat, s.engine.state = .drain → s.engine.drainLimit = some t →
      exec .drainLimit s = .next (finish (decision { s with
        now := max s.now t
        framer := { s.framer with mode := .watch, gap := none } }))

/-- QUIET_DEADLINE: the request ends and the transmission begins. The first one builds the frame by the exchange's kind, with the tag
as its target stands, and marks the message of a DELIVER or BROADCAST transmitted; one from SETTLE sends the same frame again. The
generator holds the frame's CRC from the start (log 19). A frame's characters end in its CRC, which starts at 0xFFFF; and TXD over a
transmission is the lead-in of one bit time, then each character's start bit, its data bits least significant first and its stop
bit, back to back, and high after the last character and after a contended one. -/
def Obligations.TransmissionRule : Prop :=
  (∀ (s : State) (q : Quiet) (r : InFlight), s.port.inReset = false → s.line.quiet = some q → s.engine.record = some r →
    let time := max s.now q.quietAt
    let sends := fun (chars : List Byte) (tag : Option (BitVec 4)) (bs : Vector Buffer 24) =>
      let x : Transmission := {
        chars := chars
        begun := time
        compared := 0
        echoCheck := s.line.cfg.lopt.getLsbD 7
        contended := false }
      let built : InFlight := { r with tag := tag, frame := chars }
      exec .quietDeadline s = .next (finish { s with
        now := time
        line := { s.line with quiet := none }
        pool := { s.pool with buffers := bs }
        engine := { s.engine with state := .sending, record := some built }
        framer := { s.framer with
          mode := .echo
          driverEnable := true
          tx := some x
          crcGen := crcOf ((chars.drop 1).take (chars.length - 3))
          rx := .idle
          gap := none } })
    let marked := fun b : BufIx => s.pool.buffers.set b { s.pool.buffers[b] with transmitted := true }
    (s.engine.state = .settle → sends r.frame r.tag s.pool.buffers) ∧
    (s.engine.state = .settleWait →
      (∀ (i : EntryIx) (b : BufIx), r.exch = .poll i b →
        let tag : BitVec 4 := match s.table[i].lastTaken with | none => 0#4 | some n => 1#1 ++ n
        sends (frameChars s.table[i].address 1 tag []) (some tag) s.pool.buffers) ∧
      (∀ (i : EntryIx) (b : BufIx), r.exch = .deliver i b →
        let tag : BitVec 4 := (if s.table[i].fresh then 1#1 else 0#1) ++ s.table[i].nextNum
        sends (frameChars s.table[i].address 2 tag s.pool.buffers[b].payload) (some tag) (marked b)) ∧
      (∀ a : Nat, r.exch = .probe a → sends (frameChars a 3 0#4 []) (some 0#4) s.pool.buffers) ∧
      ∀ b : BufIx, r.exch = .broadcast b →
        let tag : BitVec 4 := 0#1 ++ s.pool.broadcastNum
        sends (frameChars 127 4 tag s.pool.buffers[b].payload) (some tag) (marked b))) ∧
  (∀ (a kind : Nat) (tag : BitVec 4) (p : List Byte), ∃ crc : Word,
    frameChars a kind tag p = [0xB4#8, BitVec.ofNat 8 a, BitVec.ofNat 8 (16 * kind + tag.toNat), BitVec.ofNat 8 p.length] ++ p ++
      [crc.extractLsb' 8 8, crc.extractLsb' 0 8] ∧
    crc = crcOf ([BitVec.ofNat 8 a, BitVec.ofNat 8 (16 * kind + tag.toNat), BitVec.ofNat 8 p.length] ++ p)) ∧
  (crcOf [] = 0xFFFF#16 ∧ ∀ (bs : List Byte) (b : Byte), crcOf (bs ++ [b]) = crcByte (crcOf bs) b) ∧
  ∀ (s : State) (time : Nat),
    (s.framer.tx = none → txdAt s time = true) ∧
    ∀ x : Transmission, s.framer.tx = some x →
      let bitTime := 2 * Config.halfBit s.line.cfg.lrate
      let start := fun k : Nat => x.begun + bitTime + k * (10 * bitTime)
      (time < start 0 → txdAt s time = true) ∧
      (∀ (k : Nat) (c : Byte), x.chars[k]? = some c → (x.contended = true → k ≤ x.compared) →
        (start k ≤ time → time < start k + bitTime → txdAt s time = false) ∧
        (∀ j < 8, start k + (j + 1) * bitTime ≤ time → time < start k + (j + 2) * bitTime → txdAt s time = c.getLsbD j) ∧
        (start k + 9 * bitTime ≤ time → time < start (k + 1) → txdAt s time = true)) ∧
      (start x.chars.length ≤ time → txdAt s time = true) ∧
      (x.contended = true → start (x.compared + 1) ≤ time → txdAt s time = true)

/-- BABBLE_DEADLINE faults the line with cause BABBLE, and the fault act: the exchange, if there is one, is abandoned with cause
FAULT, the quiet request is dropped, and the line is FAULTED with LINE_FAULT behind the abandonment's records. PACE_EXPIRY ends
PACE_WAIT, which is an arrival. -/
def Obligations.FaultAndPaceRule : Prop :=
  (∀ (s : State) (q : Quiet), s.port.inReset = false → s.line.quiet = some q →
    s.line.state = .running ∨ s.line.state = .draining →
    exec .babbleDeadline s = .next (finish (lineFault 2#16 true { s with now := max s.now q.babbleAt }))) ∧
  (∀ (detail : Word) (rxdHigh : Bool) (s : State), s.line.state = .running ∨ s.line.state = .draining →
    let cut := abandon .fault rxdHigh s
    lineFault detail rxdHigh s = { cut with line := { cut.line with state := .faulted, quiet := none } }.posting
      [plainEvent .lineFault 0 0#8 detail.toNat]) ∧
  ∀ (s : State) (t : Nat), s.port.inReset = false → s.sched.paceTimer = some t →
    (s.sched.walk = .paceWait → exec .paceExpiry s = .next (finish { s with
      now := max s.now t
      sched := { s.sched with paceTimer := none, walk := .walking, lookDue := true } })) ∧
    (s.sched.walk ≠ .paceWait → exec .paceExpiry s = .next (finish { s with
      now := max s.now t
      sched := { s.sched with paceTimer := none } }))

/-! ## The exchange engine -/

/-- Framer reports in the engine's hands: kept in GUARD; in AWAIT a LEAD within the window starts the reply and a later one is
NO_REPLY; the header check; the payload into the reply buffer or the IDENT bytes; the failures that lead to DRAIN; and quiet after
a discard, which ends DRAIN. That every kind of report is kept in GUARD, and not only the four R53 names, is log 24. -/
def Obligations.ReportRule : Prop :=
  ∀ (s : State) (r : InFlight), s.engine.record = some r →
    let draining := fun t : State => { t with
      engine := { t.engine with
        state := .drain
        windowEnd := none
        takeLimit := none
        drainLimit := some (t.now + 64 * (20 * Config.halfBit t.line.cfg.lrate)) }
      framer := { t.framer with mode := .discard } }
    (∀ p : Report, s.engine.state = .guard →
      engineReport p s = { s with engine := { s.engine with kept := s.engine.kept ++ [p] } }) ∧
    (∀ edge window : Nat, s.engine.state = .await → s.engine.windowEnd = some window →
      (edge ≤ window → engineReport (.leadTaken edge) s =
        { s with engine := { s.engine with state := .receiving, windowEnd := none, takeLimit := none } }) ∧
      (window < edge → engineReport (.leadTaken edge) s = draining (failAttempt .noReply s))) ∧
    (s.engine.state = .receiving →
      let code := s.framer.hdrKindTag.toNat / 16
      let len := s.framer.hdrLength.toNat
      let good : List Nat := match r.exch with
        | .poll _ _ => [8, 9, 10]
        | .deliver _ _ => [11, 12, 13]
        | .probe _ => [14]
        | .broadcast _ => []
      let mine := s.framer.hdrAddress.toNat = 128 + frameAddress r.exch s
      let fits := (code ≤ 9 → len ≤ 48) ∧ (code = 14 → len = 3) ∧ (10 ≤ code → code ≤ 13 → len = 0)
      (frameAddress r.exch s ≤ 127 →
        (¬mine → engineReport .header s = draining (failAttempt .foreignAddress s)) ∧
        (mine → code ∉ good ∨ ¬fits → engineReport .header s = draining (failAttempt .unexpectedKind s)) ∧
        (mine → code ∈ good → fits → engineReport .header s = s)) ∧
      (s.framer.mode = .discard →
        engineReport .overlength s = draining (failAttempt .overlength s) ∧
        engineReport .framing s = draining (failAttempt .framing s)) ∧
      engineReport .truncated s = decision (failAttempt .truncated s) ∧
      ∀ d : Byte,
        (∀ (i : EntryIx) (b : BufIx), r.exch = .poll i b → engineReport (.payloadByte d) s = { s with pool := { s.pool with
          buffers := s.pool.buffers.set b { s.pool.buffers[b] with payload := s.pool.buffers[b].payload ++ [d] } } }) ∧
        ∀ a : Nat, r.exch = .probe a →
          let more : InFlight := { r with identBytes := r.identBytes ++ [d] }
          engineReport (.payloadByte d) s = { s with engine := { s.engine with record := some more } }) ∧
    (s.engine.state = .drain → engineReport .quietAfterDiscard s = decision s)

/-- A complete frame, classified: CRC_ERROR first; a delivery number other than the one sent is TAG_MISMATCH; a packed report of odd
length is BAD_PACKING and one of more than 48 expanded bytes OVERLENGTH; otherwise the exchange ends well: the report or message
first, then the table, then the engine and line control. -/
def Obligations.ClassificationRule : Prop :=
  ∀ (s : State) (r : InFlight), s.engine.record = some r → s.engine.state = .receiving →
    let code := s.framer.hdrKindTag.toNat / 16
    let tag : BitVec 4 := s.framer.hdrKindTag.extractLsb' 0 4
    let ends := fun t : State => endNotice { t with engine := {} }
    let fails := fun why : Reason => engineReport (.complete true) s = decision (failAttempt why s)
    (8 ≤ code → code ≤ 14 → engineReport (.complete false) s = decision (failAttempt .crcError s)) ∧
    (∀ (i : EntryIx) (b : BufIx), r.exch = .poll i b →
      let carried := s.pool.buffers[b].payload
      (code = 10 → engineReport (.complete true) s = ends (goodOutcome i (releaseReservation s))) ∧
      (code = 8 → engineReport (.complete true) s = ends (goodOutcome i (takeReport i false tag s))) ∧
      (code = 9 → s.framer.hdrLength.toNat % 2 = 1 → fails .badPacking) ∧
      (code = 9 → s.framer.hdrLength.toNat % 2 = 0 → 48 < (expand carried).length → fails .overlength) ∧
      (code = 9 → s.framer.hdrLength.toNat % 2 = 0 → (expand carried).length ≤ 48 →
        engineReport (.complete true) s = ends (goodOutcome i (takeReport i true tag s)))) ∧
    (∀ (i : EntryIx) (b : BufIx) (sent : BitVec 4), r.exch = .deliver i b → r.tag = some sent → 11 ≤ code → code ≤ 13 →
      (tag.extractLsb' 0 3 ≠ sent.extractLsb' 0 3 → fails .tagMismatch) ∧
      (tag.extractLsb' 0 3 = sent.extractLsb' 0 3 →
        (code = 11 → engineReport (.complete true) s = ends (goodOutcome i (deliverEnd i b .accept s))) ∧
        (code = 12 → engineReport (.complete true) s = ends (goodOutcome i (deliverEnd i b .busy s))) ∧
        (code = 13 → engineReport (.complete true) s = ends (goodOutcome i (deliverEnd i b .refuse s))))) ∧
    ∀ (a : Nat) (t h l : Byte), r.exch = .probe a → r.identBytes = [t, h, l] → code = 14 →
      let ident : Ident := { stationType := t, serial := h ++ l }
      engineReport (.complete true) s = ends (probeIdent a ident s)

/-- A failed attempt and the decision after it. The reason is recorded, a POLL or DELIVER raises its target's failed-attempt count
unless it is RETIRING, a POLL's reply buffer is cleared. Then: a BROADCAST goes on to SETTLE, a PROBE ends with its reason, a
DELIVER whose message is CANCEL_PENDING is withdrawn with cause CANCEL, and the rest with retries left are retried, or withdrawn
with cause RETIRE for a RETIRING target; with none left the exchange has its failed end. -/
def Obligations.FailureRule : Prop :=
  ∀ (s : State) (r : InFlight), s.engine.record = some r →
    let still := { s with engine := { s.engine with windowEnd := none, takeLimit := none, drainLimit := none } }
    let ask : Quiet := {
      quietAt := s.now + s.line.cfg.lsettle * (20 * Config.halfBit s.line.cfg.lrate)
      babbleAt := s.now + 64 * (20 * Config.halfBit s.line.cfg.lrate) }
    let settle := fun again : InFlight => { still with
      engine := { still.engine with state := .settle, record := some again }
      line := { s.line with quiet := some ask } }
    let ends := fun t : State => endNotice { t with engine := {} }
    (∀ why : Reason,
      let noted : InFlight := { r with lastFailure := some why }
      let seen := { s with engine := { s.engine with record := some noted } }
      let counted := fun i : EntryIx =>
        if s.table[i].state = .retiring then s.table
        else s.table.set i { s.table[i] with failCount := min 65535 (s.table[i].failCount + 1) }
      (∀ (i : EntryIx) (b : BufIx), r.exch = .poll i b → failAttempt why s = { seen with
        table := counted i
        pool := { s.pool with buffers := s.pool.buffers.set b { s.pool.buffers[b] with payload := [] } } }) ∧
      (∀ (i : EntryIx) (b : BufIx), r.exch = .deliver i b → failAttempt why s = { seen with table := counted i }) ∧
      (∀ a : Nat, r.exch = .probe a → failAttempt why s = seen) ∧
      ∀ b : BufIx, r.exch = .broadcast b → failAttempt why s = seen) ∧
    (∀ b : BufIx, r.exch = .broadcast b → decision s = settle r) ∧
    (∀ (a : Nat) (why : Reason), r.exch = .probe a → r.lastFailure = some why → decision s = ends (sweepFailure a why still)) ∧
    (∀ (i : EntryIx) (b : BufIx), r.exch = .deliver i b → s.pool.buffers[b].mark = .cancelPending →
      decision s = endNotice (abandon .cancel true still)) ∧
    ∀ i : EntryIx, (∃ b : BufIx, r.exch = .poll i b ∨ r.exch = .deliver i b ∧ s.pool.buffers[b].mark ≠ .cancelPending) →
      (r.attempt ≤ s.params.retries → s.table[i].state = .retiring → decision s = endNotice (abandon .retire true still)) ∧
      (r.attempt ≤ s.params.retries → s.table[i].state ≠ .retiring → decision s = settle { r with attempt := r.attempt + 1 }) ∧
      (s.params.retries < r.attempt →
        (∀ b : BufIx, r.exch = .poll i b → decision s = ends (failedOutcome i (releaseReservation still))) ∧
        ∀ b : BufIx, r.exch = .deliver i b →
          (s.table[i].state = .retiring → decision s = ends (failedOutcome i still)) ∧
          (s.table[i].state ≠ .retiring → decision s = ends (failedOutcome i { still with
            pool := { s.pool with buffers := s.pool.buffers.set b { s.pool.buffers[b] with mark := .queued } } })))

/-- What an outcome does to its target entry, state by state: good, and failed below LOSTLIM and at it. Entering LOST takes the
entry off the urgent list, posts STATION_LOST, and with hold_on_loss clear fails its messages in order. The failed end of a RETIRING
entry reports what stands on its list CANCELLED, HOST for a message marked CANCEL_PENDING before the REMOVE and REMOVED otherwise (a
mark made after it: log 7), and then STATION_RETIRED. -/
def Obligations.OutcomeRule : Prop :=
  ∀ (s : State) (i : EntryIx),
    let e := s.table[i]
    let good : Entry := { e with inFlight := false, miss := 0, goodCount := min 65535 (e.goodCount + 1) }
    let miss := min 15 (e.miss + 1)
    let failed : Entry := { e with inFlight := false, miss := miss }
    let put := fun x : Entry => { s with table := s.table.set i x }
    (e.state = .new → goodOutcome i s = (put { good with state := .online }).posting [entryEvent .stationOnline i e.address 0#8 0]) ∧
    (e.state = .online → goodOutcome i s = put good) ∧
    (e.state = .suspect → goodOutcome i s = put { good with state := .online }) ∧
    (e.state = .lost → goodOutcome i s = (put { good with state := .online }).posting [entryEvent .stationFound i e.address 0#8 0]) ∧
    (e.state = .parked → goodOutcome i s = put good ∧ failedOutcome i s = put failed) ∧
    (e.state = .lost → failedOutcome i s = put failed) ∧
    (miss < s.params.lostLim →
      (e.state = .new ∨ e.state = .suspect → failedOutcome i s = put failed) ∧
      (e.state = .online → failedOutcome i s = put { failed with state := .suspect })) ∧
    (s.params.lostLim ≤ miss → e.state = .new ∨ e.state = .online ∨ e.state = .suspect →
      let dropped := { s.sched with urgent := s.sched.urgent.filter fun j => j != i }
      let gone : Entry := { failed with state := .lost, urgentListed := false }
      let record := entryEvent .stationLost i e.address 0#8 (if e.state = .new then 1 else 2)
      (e.holdOnLoss = true → failedOutcome i s = ({ put gone with sched := dropped }).posting [record]) ∧
      (e.holdOnLoss = false →
        let messages := s.pool.outbound[i]
        let advanced := e.nextNum + BitVec.ofNat 3 (messages.countP fun b : BufIx => s.pool.buffers[b].transmitted)
        let freed := if messages = [] then { put gone with sched := dropped } else bufferFreed { put gone with sched := dropped }
        failedOutcome i s = ({ freed with
          table := s.table.set i { gone with nextNum := advanced }
          pool := { s.pool with outbound := s.pool.outbound.set i [] } }).posting
            (record :: messages.map fun b : BufIx => entryEvent .deliveryFailed i e.address s.pool.buffers[b].msgId 3))) ∧
    (e.state = .retiring → s.pool.outbound[i] = [] →
      let retired := ({ s with table := s.table.set i {} }).posting [entryEvent .stationRetired i e.address 0#8 0]
      goodOutcome i s = retired ∧ failedOutcome i s = retired) ∧
    (e.state = .retiring → s.pool.outbound[i] ≠ [] →
      let late := (s.engine.record.map fun r => r.lateCancel).getD false
      let detail := fun b : BufIx => if s.pool.buffers[b].mark = .cancelPending ∧ late = false then 1 else 2
      failedOutcome i s = ({ bufferFreed s with
        table := s.table.set i {}
        pool := { s.pool with outbound := s.pool.outbound.set i [] } }).posting
          ((s.pool.outbound[i].map fun b : BufIx => entryEvent .cancelled i e.address s.pool.buffers[b].msgId (detail b)) ++
            [entryEvent .stationRetired i e.address 0#8 0]))

/-- A report handed over, and the ends of a DELIVER. A report whose number is the last taken is a duplicate; another joins the inbound
queue with its source and number; the more bit lists the entry as urgent. ACCEPT reports DELIVERED; REFUSE fails the message; BUSY
backs off and keeps it until BUSYLIM; and the head of a RETIRING entry that is not accepted leaves with CANCELLED, HOST for a mark
made before the REMOVE and REMOVED otherwise (a mark made after it: log 7). A packed payload expands pair by pair. -/
def Obligations.ReplyRule : Prop :=
  (∀ (s : State) (i : EntryIx) (b : BufIx) (packed : Bool) (tag : BitVec 4), s.pool.reserved = some b →
    let e := s.table[i]
    let num : BitVec 3 := tag.extractLsb' 0 3
    let freed := { bufferFreed s with pool := { s.pool with reserved := none } }
    let twice := { freed with table := s.table.set i { e with dupCount := min 255 (e.dupCount + 1) } }
    let carried := s.pool.buffers[b].payload
    let fresh := { s with
      table := s.table.set i { e with lastTaken := some num }
      pool := { s.pool with
        reserved := none
        inbound := s.pool.inbound ++ [b]
        buffers := s.pool.buffers.set b { s.pool.buffers[b] with
          srcEntry := i
          srcAddr := e.address
          reportNum := num
          packed := packed
          payload := if packed then expand carried else carried } } }
    let more := fun t : State =>
      if tag.getLsbD 3 ∧ e.urgentOnMore ∧ e.state ≠ .empty ∧ e.state ≠ .parked ∧ i ∉ s.sched.urgent ∧ s.sched.urgent.length < 8 then
        { t with
          table := t.table.set i { t.table[i] with urgentListed := true }
          sched := { t.sched with urgent := s.sched.urgent ++ [i] } }
      else t
    (e.state = .retiring → takeReport i packed tag s = freed) ∧
    (e.state ≠ .retiring → e.lastTaken = some num → takeReport i packed tag s = more twice) ∧
    (e.state ≠ .retiring → e.lastTaken ≠ some num → takeReport i packed tag s = more fresh)) ∧
  (∀ (s : State) (i : EntryIx) (b : BufIx) (rest : List BufIx), s.pool.outbound[i] = b :: rest →
    s.pool.buffers[b].transmitted = true →
    let e := s.table[i]
    let m := s.pool.buffers[b]
    let gone := fun x : Entry => { bufferFreed s with
      table := s.table.set i { x with nextNum := e.nextNum + 1#3 }
      pool := { s.pool with outbound := s.pool.outbound.set i rest } }
    let said := fun (c : EventCode) (detail : Nat) => [entryEvent c i e.address m.msgId detail]
    let backed : Entry := { e with backoff := s.params.backoff }
    let count := min 15 (m.busyCount + 1)
    let counted := { s.pool with buffers := s.pool.buffers.set b { m with busyCount := count } }
    deliverEnd i b .accept s = (gone { e with fresh := false }).posting (said .delivered 0) ∧
    (e.state ≠ .retiring → m.mark = .cancelPending →
      deliverEnd i b .refuse s = (gone e).posting (said .cancelled 1) ∧
      deliverEnd i b .busy s = (gone backed).posting (said .cancelled 1)) ∧
    (e.state ≠ .retiring → m.mark ≠ .cancelPending →
      deliverEnd i b .refuse s = (gone e).posting (said .deliveryFailed 1) ∧
      (count < s.params.busyLim → deliverEnd i b .busy s = { s with
        table := s.table.set i backed
        pool := { s.pool with buffers := s.pool.buffers.set b { m with busyCount := count, mark := .queued } } }) ∧
      (s.params.busyLim ≤ count → deliverEnd i b .busy s =
        ({ gone backed with pool := { counted with outbound := s.pool.outbound.set i rest } }).posting
          (said .deliveryFailed 2))) ∧
    (e.state = .retiring → m.mark ≠ .cancelPending →
      deliverEnd i b .refuse s = (gone e).posting (said .cancelled 2) ∧
      deliverEnd i b .busy s = (gone e).posting (said .cancelled 2)) ∧
    ∀ r : InFlight, s.engine.record = some r → e.state = .retiring → m.mark = .cancelPending →
      let detail := if r.lateCancel then 2 else 1
      deliverEnd i b .refuse s = (gone e).posting (said .cancelled detail) ∧
      deliverEnd i b .busy s = (gone e).posting (said .cancelled detail)) ∧
  expand [] = [] ∧
  ∀ (v c : Byte) (rest : List Byte), expand (v :: c :: rest) = List.replicate (c.toNat + 1) v ++ expand rest

/-! ## The scheduler, the sweep and the shared operations -/

/-- The look at the end of a step, its claims in order, and the start of an exchange. No arrival, no look; an arrival while the
scheduler may not look causes none. The broadcast list comes first; then the urgent head, dropped without line time if it is no
longer eligible, served by a DELIVER or a POLL (with the backoff step) or deferred; then the sweep with credit held, its cursor past
the addresses that are held, or the sweep complete; then the ring walk. That the look comes at the end of the step is log 4, the head
remembered as deferred log 22, the fuel of the walk log 12, and the return of a walk that becomes DORMANT to the sweep claim log 5. -/
def Obligations.LookRule : Prop :=
  ∀ s : State,
    let ready := { s with sched := { s.sched with lookDue := false, urgentDeferred := none } }
    let ask : Quiet := {
      quietAt := s.now + s.line.cfg.lsettle * (20 * Config.halfBit s.line.cfg.lrate)
      babbleAt := s.now + 64 * (20 * Config.halfBit s.line.cfg.lrate) }
    let begun : Exchange → InFlight := fun x => {
      exch := x
      tag := none
      attempt := 1
      lastFailure := none
      frame := []
      identBytes := []
      lateCancel := false }
    let starts := fun (x : Exchange) (t : State) => { t with
      engine := { t.engine with state := .settleWait, record := some (begun x) }
      line := { t.line with quiet := some ask } }
    let marked := fun b : BufIx => s.pool.buffers.set b { s.pool.buffers[b] with mark := .inFlight }
    let passesOn := fun t : State =>
      match sweepClaim t with
      | (true, u) => u
      | (false, u) => walk Config.walkFuel u
    (s.sched.lookDue = false → finish s = s) ∧
    (s.sched.lookDue = true → s.engine.state ≠ .idle ∨ s.line.state ≠ .running →
      finish s = { s with sched := { s.sched with lookDue := false } }) ∧
    (s.sched.lookDue = true → s.engine.state = .idle → s.line.state = .running →
      (∀ (b : BufIx) (rest : List BufIx), s.pool.broadcast = b :: rest →
        finish s = starts (.broadcast b) { ready with pool := { s.pool with buffers := marked b } }) ∧
      (s.pool.broadcast = [] →
        (s.sched.urgent = [] → finish s = passesOn ready) ∧
        ∀ (i : EntryIx) (others : List EntryIx), s.sched.urgent = i :: others →
          let e := s.table[i]
          let polls := fun x : Entry =>
            (∀ b : BufIx, s.pool.lowestFree = some b → finish s = starts (.poll i b) { ready with
              table := s.table.set i { x with urgentListed := false, inFlight := true }
              pool := { s.pool with
                reserved := some b
                buffers := s.pool.buffers.set b { s.pool.buffers[b] with payload := [] } }
              sched := { ready.sched with urgent := others, exhausted := false } }) ∧
            (s.pool.lowestFree = none →
              let deferred := { ready with
                table := s.table.set i x
                sched := { ready.sched with exhausted := true, urgentDeferred := some i } }
              (s.sched.exhausted = true → finish s = passesOn deferred) ∧
              (s.sched.exhausted = false →
                finish s = passesOn (deferred.posting [entryEvent .poolExhausted i e.address 0#8 0])))
          (e.state = .empty → finish s = finish { s with sched := { s.sched with urgent := others } }) ∧
          (e.state = .parked ∨ e.state = .retiring → finish s = finish { s with
            table := s.table.set i { e with urgentListed := false }
            sched := { s.sched with urgent := others } }) ∧
          (e.state = .new ∨ e.state = .suspect ∨ e.state = .lost → polls e) ∧
          (e.state = .online → 0 < e.backoff ∨ s.pool.outbound[i] = [] → polls { e with backoff := e.backoff - 1 }) ∧
          ∀ (b : BufIx) (rest : List BufIx), e.state = .online → e.backoff = 0 → s.pool.outbound[i] = b :: rest →
            finish s = starts (.deliver i b) { ready with
              table := s.table.set i { e with urgentListed := false, inFlight := true }
              pool := { s.pool with buffers := marked b }
              sched := { ready.sched with urgent := others } })) ∧
    (s.sweep.state ≠ .active ∨ s.sched.credit = false → sweepClaim s = (false, s)) ∧
    (s.sweep.state = .active → s.sched.credit = true → s.sweep.cursor ≤ s.sweep.last →
      let isHeld := fun a : Nat => ∃ j : EntryIx, s.table[j].state ≠ .empty ∧ s.table[j].address = a
      (∀ c : Nat, s.sweep.cursor ≤ c → c ≤ s.sweep.last → (∀ a : Nat, s.sweep.cursor ≤ a → a < c → isHeld a) → ¬isHeld c →
        sweepClaim s = (true, starts (.probe c) { s with
          sweep := { s.sweep with cursor := c, outstanding := true }
          sched := { s.sched with credit := decide (s.sched.walk = .dormant) } })) ∧
      ((∀ a : Nat, s.sweep.cursor ≤ a → a ≤ s.sweep.last → isHeld a) →
        sweepClaim s = (false, ({ s with sweep := { s.sweep with state := .idle, cursor := s.sweep.last } }).posting
          [plainEvent .sweepDone 0 0#8 1]))) ∧
    (s.sched.walk ≠ .walking → ∀ n : Nat, walk n s = s)

/-- The ring walk's moves: what a visit chooses by the entry's state and what it does, with the pace load at slot 0, the recovery pass
of a LOST entry, the backoff step, the deferral and the run; the advance and its pass boundary; the pace wait; the end of a fruitless
run; and a whole move, a visit, its advance and the end of the run in turn, after which a pass boundary, or the walk becoming DORMANT
(log 5), returns to the sweep claim. The walk repeats the move. -/
def Obligations.WalkRule : Prop :=
  (∀ (s : State) (i : EntryIx) (recovery : Bool),
    (s.table[i].state = .empty ∨ s.table[i].state = .parked ∨ s.table[i].state = .retiring → chooseFor recovery i s = .barren) ∧
    (s.table[i].state = .new ∨ s.table[i].state = .suspect → chooseFor recovery i s = .poll) ∧
    (s.table[i].state = .lost → chooseFor recovery i s = if recovery then .poll else .offRecovery) ∧
    (s.table[i].state = .online → 0 < s.table[i].backoff ∨ s.pool.outbound[i] = [] → chooseFor recovery i s = .poll) ∧
    ∀ (b : BufIx) (rest : List BufIx), s.table[i].state = .online → s.table[i].backoff = 0 → s.pool.outbound[i] = b :: rest →
      chooseFor recovery i s = .deliver b) ∧
  ∀ s : State,
    let boundary := { s with sched := { s.sched with pointer := 0, passCount := s.sched.passCount + 1#16, credit := true } }
    (∀ p : SlotIx, p.val = s.sched.pointer.val + 1 → p.val < s.params.ringLen →
      advanceSlot s = (false, { s with sched := { s.sched with pointer := p } })) ∧
    (s.params.ringLen ≤ s.sched.pointer.val + 1 ∨ s.sched.pointer.val = 63 → advanceSlot s = (true, boundary)) ∧
    (s.params.ringLen ≤ s.sched.pointer.val → walkMove s = returnToSweep boundary) ∧
    (s.sched.pointer = 0 → 1 ≤ s.params.ringLen → s.sched.paceTimer ≠ none →
      walkMove s = (.again, { s with sched := { s.sched with walk := .paceWait } })) ∧
    (s.sched.run.count < s.params.ringLen → endRun s = s) ∧
    (s.params.ringLen ≤ s.sched.run.count →
      (s.sched.run.deferral = true → endRun s = { s with sched := { s.sched with walk := .bufferWait } }) ∧
      (s.sched.run.deferral = false → s.sched.run.live = true → endRun s = { s with sched := { s.sched with run := {} } }) ∧
      (s.sched.run.deferral = false → s.sched.run.live = false →
        endRun s = { s with sched := { s.sched with walk := .dormant, credit := true } })) ∧
    (s.sched.pointer.val < s.params.ringLen → s.sched.pointer ≠ 0 ∨ s.sched.paceTimer = none →
      let met := visit s
      let moved := advanceSlot met.2
      let checked := endRun moved.2
      (met.1 = .started → walkMove s = (.started, moved.2)) ∧
      (met.1 ≠ .started → moved.1 = true ∨ checked.sched.walk = .dormant → walkMove s = returnToSweep checked) ∧
      (met.1 ≠ .started → moved.1 = false → checked.sched.walk ≠ .dormant → walkMove s = (.again, checked))) ∧
    (returnToSweep s = match sweepClaim s with | (true, u) => (.started, u) | (false, u) => (.again, u)) ∧
    (∀ n : Nat, s.sched.walk = .walking →
      walk (n + 1) s = match walkMove s with | (.started, u) => u | (.again, u) => walk n u) ∧
    let run := s.sched.run
    let ran := fun (r : Run) (t : State) => { t with sched := { t.sched with run := r } }
    let paced := if s.sched.pointer = 0 then { s with sched := { s.sched with
      paceTimer := if s.params.pace = 0 then none else some (s.now + s.params.pace * 73728) } } else s
    let barren := ran { run with count := run.count + 1 } paced
    (s.sched.ring[s.sched.pointer] = none → visit s = (.barren, barren)) ∧
    ∀ i : EntryIx, s.sched.ring[s.sched.pointer] = some i →
      let e := s.table[i]
      let onRecovery := s.sched.passCount.toNat % s.params.recover = 0
      let polls := fun (x : Entry) (lowered : Bool) =>
        let base := { paced with table := s.table.set i x }
        (∀ b : BufIx, s.pool.lowestFree = some b →
          visit s = (.started, ran {} (startExchange (.poll i b) (reserve b base)))) ∧
        (s.pool.lowestFree = none →
          let fruit : Fruit := if lowered then .loweredBackoff else .deferred
          let next : Run := if lowered then {} else { run with count := run.count + 1, deferral := true }
          let put := ran next { base with sched := { base.sched with exhausted := true } }
          (s.sched.exhausted = true → visit s = (fruit, put)) ∧
          (s.sched.exhausted = false →
            visit s = (fruit, put.posting [entryEvent .poolExhausted i e.address 0#8 0])))
      (e.state = .empty ∨ e.state = .parked ∨ e.state = .retiring → visit s = (.barren, barren)) ∧
      (e.state = .lost → ¬onRecovery →
        visit s = (.offRecovery, ran { run with count := run.count + 1, live := true } paced)) ∧
      (e.state = .new ∨ e.state = .suspect ∨ (e.state = .lost ∧ onRecovery) → polls e false) ∧
      (e.state = .online → 0 < e.backoff → polls { e with backoff := e.backoff - 1 } true) ∧
      (e.state = .online → e.backoff = 0 → s.pool.outbound[i] = [] → polls e false) ∧
      ∀ (b : BufIx) (rest : List BufIx), e.state = .online → e.backoff = 0 → s.pool.outbound[i] = b :: rest →
        visit s = (.started, ran {} (startExchange (.deliver i b) paced))

/-- The sweep's outcomes, by its state and its place in the range: an IDENT from an address no entry holds (found, added or no room),
a silent address, a conflict, an IDENT that an entry added meanwhile takes, and a probe that is not decided. Below the last address a
decided outcome moves the cursor up; at it an ACTIVE sweep completes; a STOPPING sweep ends, its record carrying the cursor after the
move. The outcome's own events stand first. -/
def Obligations.SweepOutcomeRule : Prop :=
  ∀ (s : State) (a : Nat) (d : Ident),
    let told := fun (w : Sweep) (t : State) => { t with sweep := { w with outstanding := false } }
    let found := fun (c : EventCode) (e : Option EntryIx) =>
      ({ code := c, entry := e, address := a, id := d.stationType, detail := d.serial } : Event)
    let place : Nat := if s.sweep.cursor < s.sweep.last then s.sweep.cursor + 1 else s.sweep.cursor
    let stops := plainEvent .sweepDone place 0#8 2
    (∀ (w : Sweep) (closing : List Event),
      (s.sweep.state = .active ∧ s.sweep.cursor < s.sweep.last ∧ w = { s.sweep with cursor := place } ∧ closing = []) ∨
      (s.sweep.state = .active ∧ s.sweep.last ≤ s.sweep.cursor ∧ w = { s.sweep with state := .idle } ∧
        closing = [plainEvent .sweepDone 0 0#8 1]) ∨
      (s.sweep.state = .stopping ∧ w = { s.sweep with state := .idle, cursor := place } ∧ closing = [stops]) →
      sweepFailure a .noReply s = (told w s).posting closing ∧
      (s.sweep.autoAdd = false → sweepIdent a d s = (told w s).posting (found .sweepFound none :: closing)) ∧
      (s.sweep.autoAdd = true → (∀ i : EntryIx, s.table[i].state ≠ .empty) →
        sweepIdent a d s = (told w s).posting (found .sweepNoRoom none :: closing)) ∧
      (∀ i : EntryIx, s.sweep.autoAdd = true → s.table[i].state = .empty → (∀ j : EntryIx, j < i → s.table[j].state ≠ .empty) →
        let e : Entry := { address := a, state := .online, ident := some d, fresh := true }
        sweepIdent a d s =
          (told w (wake { s with table := s.table.set i e })).posting (found .sweepAdded (some i) :: closing)) ∧
      (∀ why : Reason, why ≠ .contention → why ≠ .noReply →
        sweepFailure a why s = (told w s).posting (plainEvent .sweepConflict a 0#8 why.code :: closing)) ∧
      ∀ i : EntryIx, s.table[i].state ≠ .empty → s.table[i].address = a →
        (∀ j : EntryIx, s.table[j].state ≠ .empty → s.table[j].address = a → j = i) →
        probeIdent a d s =
          (told w (goodOutcome i { s with table := s.table.set i { s.table[i] with ident := some d } })).posting closing) ∧
    (s.sweep.state = .active → sweepFailure a .contention s = told s.sweep s) ∧
    (s.sweep.state = .stopping → sweepFailure a .contention s =
      (told { s.sweep with state := .idle } s).posting [plainEvent .sweepDone s.sweep.cursor 0#8 2]) ∧
    ((∀ i : EntryIx, s.table[i].state ≠ .empty → s.table[i].address ≠ a) → probeIdent a d s = sweepIdent a d s) ∧
    ∀ why : Reason, why.code = (match why with
      | .noReply => 1 | .framing => 2 | .truncated => 3 | .overlength => 4 | .badPacking => 5 | .crcError => 6
      | .foreignAddress => 7 | .unexpectedKind => 8 | .tagMismatch => 9 | .contention => 10)

/-- The shared operations: a posting declined, queued or lost; a wake; a buffer's return to the free list; and the end notice of line
control, by the line state. The look that an arrival brings is remembered to the end of the step (log 4), and the head whose POLL was
deferred at the last look is the model's own memory (log 22). -/
def Obligations.SharedOperations : Prop :=
  ∀ s : State,
    (∀ e : Event,
      let admitted := e.code = .eventsLost ∨ e.code = .resetDone ∨ s.events.filter.getLsbD (e.code.code.toNat / 16 - 1) = true
      (¬admitted → post e s = s) ∧
      (admitted → s.events.records.length < 32 →
        post e s = { s with events := { s.events with records := s.events.records ++ [e] } }) ∧
      (admitted → 32 ≤ s.events.records.length →
        post e s = { s with events := { s.events with lost := min 255 (s.events.lost + 1) } })) ∧
    (let up := { s.sched with run := {}, lookDue := true }
     (s.sched.walk = .dormant ∨ s.sched.walk = .bufferWait → wake s = { s with sched := { up with walk := .walking } }) ∧
     (s.sched.walk = .walking ∨ s.sched.walk = .paceWait → wake s = { s with sched := up })) ∧
    (s.sched.walk = .bufferWait →
      bufferFreed s = { s with sched := { s.sched with walk := .walking, run := {}, lookDue := true } }) ∧
    (s.sched.walk ≠ .bufferWait →
      (s.sched.urgentDeferred = none → bufferFreed s = s) ∧
      ∀ i : EntryIx, s.sched.urgentDeferred = some i →
        (s.sched.urgent.head? = some i → bufferFreed s = { s with sched := { s.sched with lookDue := true } }) ∧
        (s.sched.urgent.head? ≠ some i → bufferFreed s = s)) ∧
    (s.line.state = .running → endNotice s = { s with sched := { s.sched with lookDue := true } }) ∧
    (s.line.state = .draining →
      endNotice s = { s with line := { s.line with state := .stopped } }.posting [plainEvent .lineStopped 0 0#8 1]) ∧
    (s.line.state = .stopped ∨ s.line.state = .faulted → endNotice s = s)

/-! ## Invariants: laws that every step keeps, from any state in which they hold -/

/-- No two occupied entries hold one address, an ONLINE entry has miss count 0, and no buffer has two holders: each kept by every
step. -/
def Obligations.StepsKeepTheTable : Prop :=
  ∀ s t : State, step s = .next t → (s.AddressLaw → t.AddressLaw) ∧ (s.OnlineLaw → t.OnlineLaw) ∧ (s.PoolLaw → t.PoolLaw)

/-- The in-flight flags and the reply reservation follow the exchange in flight, a RETIRING entry is its target, and an EMPTY entry
holds nothing: kept by every step. -/
def Obligations.StepsKeepTheTarget : Prop :=
  ∀ s t : State, step s = .next t → (s.TargetLaw → t.TargetLaw) ∧ (s.ReservationLaw → t.ReservationLaw)

/-- The message lists keep their capacities, only a head is marked or has been transmitted, a marked head is the message of the
exchange in flight, and the message of the exchange in flight is a marked head: kept by every step, with the laws these rest on. -/
def Obligations.StepsKeepTheMessages : Prop :=
  ∀ s t : State, step s = .next t →
    s.PoolLaw ∧ s.TargetLaw ∧ s.ReservationLaw ∧ s.RangeLaw ∧ s.ListLaw ∧ s.MarkLaw ∧ s.HeadLaw →
    t.PoolLaw ∧ t.TargetLaw ∧ t.ReservationLaw ∧ t.RangeLaw ∧ t.ListLaw ∧ t.MarkLaw ∧ t.HeadLaw

/-- The urgent list and its flags, and the scheduler's record: each kept by every step. -/
def Obligations.StepsKeepTheScheduler : Prop :=
  ∀ s t : State, step s = .next t → (s.UrgentLaw → t.UrgentLaw) ∧ (s.SchedulerLaw → t.SchedulerLaw)

/-- The sweep's cursor stays in its range, its flag follows the PROBE in flight, and every occupied entry holds a station address:
kept by every step. -/
def Obligations.StepsKeepTheSweep : Prop := ∀ s t : State, step s = .next t → s.SweepLaw → t.SweepLaw

/-- The engine runs only on a line that runs or drains, the driver is on only in SENDING and GUARD, and a quiet request is pending
exactly between attempts: kept by every step. -/
def Obligations.StepsKeepTheLine : Prop := ∀ s t : State, step s = .next t → s.LineLaw → t.LineLaw

/-- Parameters and counters stay in their ranges, the event queue within 32 records, the host-error latch consistent, and no look is
owed between steps (log 4): each kept by every step. -/
def Obligations.StepsKeepTheRecords : Prop :=
  ∀ s t : State, step s = .next t →
    (s.RangeLaw → t.RangeLaw) ∧ (s.CounterLaw → t.CounterLaw) ∧ (s.EventLaw → t.EventLaw) ∧ (s.LatchLaw → t.LatchLaw) ∧
    (s.LookLaw → t.LookLaw)
end

