-- ==== Sys2Proof/Laws/State.lean ====
section
/-! SUPPORT. What each update of the state leaves alone and what it sets, field by field, all true by rfl: later proofs cite these and
do not unfold a record update. -/

namespace Sys2Proof.Machine

/-! ## withEntry -/

@[simp] theorem withEntry_pool (i : EntryIx) (e : Entry) (s : State) : (withEntry i e s).pool = s.pool := rfl
@[simp] theorem withEntry_params (i : EntryIx) (e : Entry) (s : State) : (withEntry i e s).params = s.params := rfl
@[simp] theorem withEntry_sched (i : EntryIx) (e : Entry) (s : State) : (withEntry i e s).sched = s.sched := rfl
@[simp] theorem withEntry_sweep (i : EntryIx) (e : Entry) (s : State) : (withEntry i e s).sweep = s.sweep := rfl
@[simp] theorem withEntry_line (i : EntryIx) (e : Entry) (s : State) : (withEntry i e s).line = s.line := rfl
@[simp] theorem withEntry_framer (i : EntryIx) (e : Entry) (s : State) : (withEntry i e s).framer = s.framer := rfl
@[simp] theorem withEntry_engine (i : EntryIx) (e : Entry) (s : State) : (withEntry i e s).engine = s.engine := rfl
@[simp] theorem withEntry_events (i : EntryIx) (e : Entry) (s : State) : (withEntry i e s).events = s.events := rfl
@[simp] theorem withEntry_port (i : EntryIx) (e : Entry) (s : State) : (withEntry i e s).port = s.port := rfl
@[simp] theorem withEntry_now (i : EntryIx) (e : Entry) (s : State) : (withEntry i e s).now = s.now := rfl
@[simp] theorem withEntry_pending (i : EntryIx) (e : Entry) (s : State) : (withEntry i e s).pending = s.pending := rfl

/-! ## modEntry -/

@[simp] theorem modEntry_pool (i : EntryIx) (f : Entry → Entry) (s : State) : (modEntry i f s).pool = s.pool := rfl
@[simp] theorem modEntry_params (i : EntryIx) (f : Entry → Entry) (s : State) : (modEntry i f s).params = s.params := rfl
@[simp] theorem modEntry_sched (i : EntryIx) (f : Entry → Entry) (s : State) : (modEntry i f s).sched = s.sched := rfl
@[simp] theorem modEntry_sweep (i : EntryIx) (f : Entry → Entry) (s : State) : (modEntry i f s).sweep = s.sweep := rfl
@[simp] theorem modEntry_line (i : EntryIx) (f : Entry → Entry) (s : State) : (modEntry i f s).line = s.line := rfl
@[simp] theorem modEntry_framer (i : EntryIx) (f : Entry → Entry) (s : State) : (modEntry i f s).framer = s.framer := rfl
@[simp] theorem modEntry_engine (i : EntryIx) (f : Entry → Entry) (s : State) : (modEntry i f s).engine = s.engine := rfl
@[simp] theorem modEntry_events (i : EntryIx) (f : Entry → Entry) (s : State) : (modEntry i f s).events = s.events := rfl
@[simp] theorem modEntry_port (i : EntryIx) (f : Entry → Entry) (s : State) : (modEntry i f s).port = s.port := rfl
@[simp] theorem modEntry_now (i : EntryIx) (f : Entry → Entry) (s : State) : (modEntry i f s).now = s.now := rfl
@[simp] theorem modEntry_pending (i : EntryIx) (f : Entry → Entry) (s : State) : (modEntry i f s).pending = s.pending := rfl

/-! ## modBuffer -/

@[simp] theorem modBuffer_table (b : BufIx) (f : Buffer → Buffer) (s : State) : (modBuffer b f s).table = s.table := rfl
@[simp] theorem modBuffer_params (b : BufIx) (f : Buffer → Buffer) (s : State) : (modBuffer b f s).params = s.params := rfl
@[simp] theorem modBuffer_sched (b : BufIx) (f : Buffer → Buffer) (s : State) : (modBuffer b f s).sched = s.sched := rfl
@[simp] theorem modBuffer_sweep (b : BufIx) (f : Buffer → Buffer) (s : State) : (modBuffer b f s).sweep = s.sweep := rfl
@[simp] theorem modBuffer_line (b : BufIx) (f : Buffer → Buffer) (s : State) : (modBuffer b f s).line = s.line := rfl
@[simp] theorem modBuffer_framer (b : BufIx) (f : Buffer → Buffer) (s : State) : (modBuffer b f s).framer = s.framer := rfl
@[simp] theorem modBuffer_engine (b : BufIx) (f : Buffer → Buffer) (s : State) : (modBuffer b f s).engine = s.engine := rfl
@[simp] theorem modBuffer_events (b : BufIx) (f : Buffer → Buffer) (s : State) : (modBuffer b f s).events = s.events := rfl
@[simp] theorem modBuffer_port (b : BufIx) (f : Buffer → Buffer) (s : State) : (modBuffer b f s).port = s.port := rfl
@[simp] theorem modBuffer_now (b : BufIx) (f : Buffer → Buffer) (s : State) : (modBuffer b f s).now = s.now := rfl
@[simp] theorem modBuffer_pending (b : BufIx) (f : Buffer → Buffer) (s : State) : (modBuffer b f s).pending = s.pending := rfl

/-! ## withOutbound -/

@[simp] theorem withOutbound_table (i : EntryIx) (bs : List BufIx) (s : State) : (withOutbound i bs s).table = s.table := rfl
@[simp] theorem withOutbound_params (i : EntryIx) (bs : List BufIx) (s : State) : (withOutbound i bs s).params = s.params := rfl
@[simp] theorem withOutbound_sched (i : EntryIx) (bs : List BufIx) (s : State) : (withOutbound i bs s).sched = s.sched := rfl
@[simp] theorem withOutbound_sweep (i : EntryIx) (bs : List BufIx) (s : State) : (withOutbound i bs s).sweep = s.sweep := rfl
@[simp] theorem withOutbound_line (i : EntryIx) (bs : List BufIx) (s : State) : (withOutbound i bs s).line = s.line := rfl
@[simp] theorem withOutbound_framer (i : EntryIx) (bs : List BufIx) (s : State) : (withOutbound i bs s).framer = s.framer := rfl
@[simp] theorem withOutbound_engine (i : EntryIx) (bs : List BufIx) (s : State) : (withOutbound i bs s).engine = s.engine := rfl
@[simp] theorem withOutbound_events (i : EntryIx) (bs : List BufIx) (s : State) : (withOutbound i bs s).events = s.events := rfl
@[simp] theorem withOutbound_port (i : EntryIx) (bs : List BufIx) (s : State) : (withOutbound i bs s).port = s.port := rfl
@[simp] theorem withOutbound_now (i : EntryIx) (bs : List BufIx) (s : State) : (withOutbound i bs s).now = s.now := rfl
@[simp] theorem withOutbound_pending (i : EntryIx) (bs : List BufIx) (s : State) : (withOutbound i bs s).pending = s.pending := rfl

/-! ## setMark -/

@[simp] theorem setMark_table (b : BufIx) (m : Mark) (s : State) : (setMark b m s).table = s.table := rfl
@[simp] theorem setMark_params (b : BufIx) (m : Mark) (s : State) : (setMark b m s).params = s.params := rfl
@[simp] theorem setMark_sched (b : BufIx) (m : Mark) (s : State) : (setMark b m s).sched = s.sched := rfl
@[simp] theorem setMark_sweep (b : BufIx) (m : Mark) (s : State) : (setMark b m s).sweep = s.sweep := rfl
@[simp] theorem setMark_line (b : BufIx) (m : Mark) (s : State) : (setMark b m s).line = s.line := rfl
@[simp] theorem setMark_framer (b : BufIx) (m : Mark) (s : State) : (setMark b m s).framer = s.framer := rfl
@[simp] theorem setMark_engine (b : BufIx) (m : Mark) (s : State) : (setMark b m s).engine = s.engine := rfl
@[simp] theorem setMark_events (b : BufIx) (m : Mark) (s : State) : (setMark b m s).events = s.events := rfl
@[simp] theorem setMark_port (b : BufIx) (m : Mark) (s : State) : (setMark b m s).port = s.port := rfl
@[simp] theorem setMark_now (b : BufIx) (m : Mark) (s : State) : (setMark b m s).now = s.now := rfl
@[simp] theorem setMark_pending (b : BufIx) (m : Mark) (s : State) : (setMark b m s).pending = s.pending := rfl

/-! ## hostError -/

@[simp] theorem hostError_table (h : HostError) (s : State) : (hostError h s).table = s.table := rfl
@[simp] theorem hostError_pool (h : HostError) (s : State) : (hostError h s).pool = s.pool := rfl
@[simp] theorem hostError_params (h : HostError) (s : State) : (hostError h s).params = s.params := rfl
@[simp] theorem hostError_sched (h : HostError) (s : State) : (hostError h s).sched = s.sched := rfl
@[simp] theorem hostError_sweep (h : HostError) (s : State) : (hostError h s).sweep = s.sweep := rfl
@[simp] theorem hostError_line (h : HostError) (s : State) : (hostError h s).line = s.line := rfl
@[simp] theorem hostError_framer (h : HostError) (s : State) : (hostError h s).framer = s.framer := rfl
@[simp] theorem hostError_engine (h : HostError) (s : State) : (hostError h s).engine = s.engine := rfl
@[simp] theorem hostError_events (h : HostError) (s : State) : (hostError h s).events = s.events := rfl
@[simp] theorem hostError_now (h : HostError) (s : State) : (hostError h s).now = s.now := rfl
@[simp] theorem hostError_pending (h : HostError) (s : State) : (hostError h s).pending = s.pending := rfl

/-! ## arrival -/

@[simp] theorem arrival_table (s : State) : (arrival s).table = s.table := rfl
@[simp] theorem arrival_pool (s : State) : (arrival s).pool = s.pool := rfl
@[simp] theorem arrival_params (s : State) : (arrival s).params = s.params := rfl
@[simp] theorem arrival_sweep (s : State) : (arrival s).sweep = s.sweep := rfl
@[simp] theorem arrival_line (s : State) : (arrival s).line = s.line := rfl
@[simp] theorem arrival_framer (s : State) : (arrival s).framer = s.framer := rfl
@[simp] theorem arrival_engine (s : State) : (arrival s).engine = s.engine := rfl
@[simp] theorem arrival_events (s : State) : (arrival s).events = s.events := rfl
@[simp] theorem arrival_port (s : State) : (arrival s).port = s.port := rfl
@[simp] theorem arrival_now (s : State) : (arrival s).now = s.now := rfl
@[simp] theorem arrival_pending (s : State) : (arrival s).pending = s.pending := rfl

/-! ## wake -/

@[simp] theorem wake_table (s : State) : (wake s).table = s.table := rfl
@[simp] theorem wake_pool (s : State) : (wake s).pool = s.pool := rfl
@[simp] theorem wake_params (s : State) : (wake s).params = s.params := rfl
@[simp] theorem wake_sweep (s : State) : (wake s).sweep = s.sweep := rfl
@[simp] theorem wake_line (s : State) : (wake s).line = s.line := rfl
@[simp] theorem wake_framer (s : State) : (wake s).framer = s.framer := rfl
@[simp] theorem wake_engine (s : State) : (wake s).engine = s.engine := rfl
@[simp] theorem wake_events (s : State) : (wake s).events = s.events := rfl
@[simp] theorem wake_port (s : State) : (wake s).port = s.port := rfl
@[simp] theorem wake_now (s : State) : (wake s).now = s.now := rfl
@[simp] theorem wake_pending (s : State) : (wake s).pending = s.pending := rfl

/-! ## dropUrgent -/

@[simp] theorem dropUrgent_pool (i : EntryIx) (s : State) : (dropUrgent i s).pool = s.pool := rfl
@[simp] theorem dropUrgent_params (i : EntryIx) (s : State) : (dropUrgent i s).params = s.params := rfl
@[simp] theorem dropUrgent_sweep (i : EntryIx) (s : State) : (dropUrgent i s).sweep = s.sweep := rfl
@[simp] theorem dropUrgent_line (i : EntryIx) (s : State) : (dropUrgent i s).line = s.line := rfl
@[simp] theorem dropUrgent_framer (i : EntryIx) (s : State) : (dropUrgent i s).framer = s.framer := rfl
@[simp] theorem dropUrgent_engine (i : EntryIx) (s : State) : (dropUrgent i s).engine = s.engine := rfl
@[simp] theorem dropUrgent_events (i : EntryIx) (s : State) : (dropUrgent i s).events = s.events := rfl
@[simp] theorem dropUrgent_port (i : EntryIx) (s : State) : (dropUrgent i s).port = s.port := rfl
@[simp] theorem dropUrgent_now (i : EntryIx) (s : State) : (dropUrgent i s).now = s.now := rfl
@[simp] theorem dropUrgent_pending (i : EntryIx) (s : State) : (dropUrgent i s).pending = s.pending := rfl

/-! ## listUrgent -/

@[simp] theorem listUrgent_pool (i : EntryIx) (s : State) : (listUrgent i s).pool = s.pool := rfl
@[simp] theorem listUrgent_params (i : EntryIx) (s : State) : (listUrgent i s).params = s.params := rfl
@[simp] theorem listUrgent_sweep (i : EntryIx) (s : State) : (listUrgent i s).sweep = s.sweep := rfl
@[simp] theorem listUrgent_line (i : EntryIx) (s : State) : (listUrgent i s).line = s.line := rfl
@[simp] theorem listUrgent_framer (i : EntryIx) (s : State) : (listUrgent i s).framer = s.framer := rfl
@[simp] theorem listUrgent_engine (i : EntryIx) (s : State) : (listUrgent i s).engine = s.engine := rfl
@[simp] theorem listUrgent_events (i : EntryIx) (s : State) : (listUrgent i s).events = s.events := rfl
@[simp] theorem listUrgent_port (i : EntryIx) (s : State) : (listUrgent i s).port = s.port := rfl
@[simp] theorem listUrgent_now (i : EntryIx) (s : State) : (listUrgent i s).now = s.now := rfl
@[simp] theorem listUrgent_pending (i : EntryIx) (s : State) : (listUrgent i s).pending = s.pending := rfl

/-! ## advanceTo -/

@[simp] theorem advanceTo_table (t : Nat) (s : State) : (advanceTo t s).table = s.table := rfl
@[simp] theorem advanceTo_pool (t : Nat) (s : State) : (advanceTo t s).pool = s.pool := rfl
@[simp] theorem advanceTo_params (t : Nat) (s : State) : (advanceTo t s).params = s.params := rfl
@[simp] theorem advanceTo_sched (t : Nat) (s : State) : (advanceTo t s).sched = s.sched := rfl
@[simp] theorem advanceTo_sweep (t : Nat) (s : State) : (advanceTo t s).sweep = s.sweep := rfl
@[simp] theorem advanceTo_line (t : Nat) (s : State) : (advanceTo t s).line = s.line := rfl
@[simp] theorem advanceTo_framer (t : Nat) (s : State) : (advanceTo t s).framer = s.framer := rfl
@[simp] theorem advanceTo_engine (t : Nat) (s : State) : (advanceTo t s).engine = s.engine := rfl
@[simp] theorem advanceTo_events (t : Nat) (s : State) : (advanceTo t s).events = s.events := rfl
@[simp] theorem advanceTo_port (t : Nat) (s : State) : (advanceTo t s).port = s.port := rfl
@[simp] theorem advanceTo_pending (t : Nat) (s : State) : (advanceTo t s).pending = s.pending := rfl

/-! ## quietRequest -/

@[simp] theorem quietRequest_table (s : State) : (quietRequest s).table = s.table := rfl
@[simp] theorem quietRequest_pool (s : State) : (quietRequest s).pool = s.pool := rfl
@[simp] theorem quietRequest_params (s : State) : (quietRequest s).params = s.params := rfl
@[simp] theorem quietRequest_sched (s : State) : (quietRequest s).sched = s.sched := rfl
@[simp] theorem quietRequest_sweep (s : State) : (quietRequest s).sweep = s.sweep := rfl
@[simp] theorem quietRequest_framer (s : State) : (quietRequest s).framer = s.framer := rfl
@[simp] theorem quietRequest_engine (s : State) : (quietRequest s).engine = s.engine := rfl
@[simp] theorem quietRequest_events (s : State) : (quietRequest s).events = s.events := rfl
@[simp] theorem quietRequest_port (s : State) : (quietRequest s).port = s.port := rfl
@[simp] theorem quietRequest_now (s : State) : (quietRequest s).now = s.now := rfl
@[simp] theorem quietRequest_pending (s : State) : (quietRequest s).pending = s.pending := rfl

/-! ## framerStop -/

@[simp] theorem framerStop_table (h : Bool) (s : State) : (framerStop h s).table = s.table := rfl
@[simp] theorem framerStop_pool (h : Bool) (s : State) : (framerStop h s).pool = s.pool := rfl
@[simp] theorem framerStop_params (h : Bool) (s : State) : (framerStop h s).params = s.params := rfl
@[simp] theorem framerStop_sched (h : Bool) (s : State) : (framerStop h s).sched = s.sched := rfl
@[simp] theorem framerStop_sweep (h : Bool) (s : State) : (framerStop h s).sweep = s.sweep := rfl
@[simp] theorem framerStop_line (h : Bool) (s : State) : (framerStop h s).line = s.line := rfl
@[simp] theorem framerStop_engine (h : Bool) (s : State) : (framerStop h s).engine = s.engine := rfl
@[simp] theorem framerStop_events (h : Bool) (s : State) : (framerStop h s).events = s.events := rfl
@[simp] theorem framerStop_port (h : Bool) (s : State) : (framerStop h s).port = s.port := rfl
@[simp] theorem framerStop_now (h : Bool) (s : State) : (framerStop h s).now = s.now := rfl
@[simp] theorem framerStop_pending (h : Bool) (s : State) : (framerStop h s).pending = s.pending := rfl

/-! ## vacate -/

@[simp] theorem vacate_params (i : EntryIx) (s : State) : (vacate i s).params = s.params := rfl
@[simp] theorem vacate_sched (i : EntryIx) (s : State) : (vacate i s).sched = s.sched := rfl
@[simp] theorem vacate_sweep (i : EntryIx) (s : State) : (vacate i s).sweep = s.sweep := rfl
@[simp] theorem vacate_line (i : EntryIx) (s : State) : (vacate i s).line = s.line := rfl
@[simp] theorem vacate_framer (i : EntryIx) (s : State) : (vacate i s).framer = s.framer := rfl
@[simp] theorem vacate_engine (i : EntryIx) (s : State) : (vacate i s).engine = s.engine := rfl
@[simp] theorem vacate_events (i : EntryIx) (s : State) : (vacate i s).events = s.events := rfl
@[simp] theorem vacate_port (i : EntryIx) (s : State) : (vacate i s).port = s.port := rfl
@[simp] theorem vacate_now (i : EntryIx) (s : State) : (vacate i s).now = s.now := rfl
@[simp] theorem vacate_pending (i : EntryIx) (s : State) : (vacate i s).pending = s.pending := rfl

/-! ## countFailedAttempt -/

@[simp] theorem countFailedAttempt_pool (i : EntryIx) (s : State) : (countFailedAttempt i s).pool = s.pool := rfl
@[simp] theorem countFailedAttempt_params (i : EntryIx) (s : State) : (countFailedAttempt i s).params = s.params := rfl
@[simp] theorem countFailedAttempt_sched (i : EntryIx) (s : State) : (countFailedAttempt i s).sched = s.sched := rfl
@[simp] theorem countFailedAttempt_sweep (i : EntryIx) (s : State) : (countFailedAttempt i s).sweep = s.sweep := rfl
@[simp] theorem countFailedAttempt_line (i : EntryIx) (s : State) : (countFailedAttempt i s).line = s.line := rfl
@[simp] theorem countFailedAttempt_framer (i : EntryIx) (s : State) : (countFailedAttempt i s).framer = s.framer := rfl
@[simp] theorem countFailedAttempt_engine (i : EntryIx) (s : State) : (countFailedAttempt i s).engine = s.engine := rfl
@[simp] theorem countFailedAttempt_events (i : EntryIx) (s : State) : (countFailedAttempt i s).events = s.events := rfl
@[simp] theorem countFailedAttempt_port (i : EntryIx) (s : State) : (countFailedAttempt i s).port = s.port := rfl
@[simp] theorem countFailedAttempt_now (i : EntryIx) (s : State) : (countFailedAttempt i s).now = s.now := rfl
@[simp] theorem countFailedAttempt_pending (i : EntryIx) (s : State) : (countFailedAttempt i s).pending = s.pending := rfl

/-! ## withSweep -/

@[simp] theorem withSweep_table (w : Sweep) (s : State) : (withSweep w s).table = s.table := rfl
@[simp] theorem withSweep_pool (w : Sweep) (s : State) : (withSweep w s).pool = s.pool := rfl
@[simp] theorem withSweep_params (w : Sweep) (s : State) : (withSweep w s).params = s.params := rfl
@[simp] theorem withSweep_sched (w : Sweep) (s : State) : (withSweep w s).sched = s.sched := rfl
@[simp] theorem withSweep_line (w : Sweep) (s : State) : (withSweep w s).line = s.line := rfl
@[simp] theorem withSweep_framer (w : Sweep) (s : State) : (withSweep w s).framer = s.framer := rfl
@[simp] theorem withSweep_engine (w : Sweep) (s : State) : (withSweep w s).engine = s.engine := rfl
@[simp] theorem withSweep_events (w : Sweep) (s : State) : (withSweep w s).events = s.events := rfl
@[simp] theorem withSweep_port (w : Sweep) (s : State) : (withSweep w s).port = s.port := rfl
@[simp] theorem withSweep_now (w : Sweep) (s : State) : (withSweep w s).now = s.now := rfl
@[simp] theorem withSweep_pending (w : Sweep) (s : State) : (withSweep w s).pending = s.pending := rfl

/-! ## probeEnded -/

@[simp] theorem probeEnded_table (s : State) : (probeEnded s).table = s.table := rfl
@[simp] theorem probeEnded_pool (s : State) : (probeEnded s).pool = s.pool := rfl
@[simp] theorem probeEnded_params (s : State) : (probeEnded s).params = s.params := rfl
@[simp] theorem probeEnded_sched (s : State) : (probeEnded s).sched = s.sched := rfl
@[simp] theorem probeEnded_line (s : State) : (probeEnded s).line = s.line := rfl
@[simp] theorem probeEnded_framer (s : State) : (probeEnded s).framer = s.framer := rfl
@[simp] theorem probeEnded_engine (s : State) : (probeEnded s).engine = s.engine := rfl
@[simp] theorem probeEnded_events (s : State) : (probeEnded s).events = s.events := rfl
@[simp] theorem probeEnded_port (s : State) : (probeEnded s).port = s.port := rfl
@[simp] theorem probeEnded_now (s : State) : (probeEnded s).now = s.now := rfl
@[simp] theorem probeEnded_pending (s : State) : (probeEnded s).pending = s.pending := rfl

/-! ## reserve -/

@[simp] theorem reserve_table (b : BufIx) (s : State) : (reserve b s).table = s.table := rfl
@[simp] theorem reserve_params (b : BufIx) (s : State) : (reserve b s).params = s.params := rfl
@[simp] theorem reserve_sweep (b : BufIx) (s : State) : (reserve b s).sweep = s.sweep := rfl
@[simp] theorem reserve_line (b : BufIx) (s : State) : (reserve b s).line = s.line := rfl
@[simp] theorem reserve_framer (b : BufIx) (s : State) : (reserve b s).framer = s.framer := rfl
@[simp] theorem reserve_engine (b : BufIx) (s : State) : (reserve b s).engine = s.engine := rfl
@[simp] theorem reserve_events (b : BufIx) (s : State) : (reserve b s).events = s.events := rfl
@[simp] theorem reserve_port (b : BufIx) (s : State) : (reserve b s).port = s.port := rfl
@[simp] theorem reserve_now (b : BufIx) (s : State) : (reserve b s).now = s.now := rfl
@[simp] theorem reserve_pending (b : BufIx) (s : State) : (reserve b s).pending = s.pending := rfl

/-! ## servedHead -/

@[simp] theorem servedHead_pool (i : EntryIx) (s : State) : (servedHead i s).pool = s.pool := rfl
@[simp] theorem servedHead_params (i : EntryIx) (s : State) : (servedHead i s).params = s.params := rfl
@[simp] theorem servedHead_sweep (i : EntryIx) (s : State) : (servedHead i s).sweep = s.sweep := rfl
@[simp] theorem servedHead_line (i : EntryIx) (s : State) : (servedHead i s).line = s.line := rfl
@[simp] theorem servedHead_framer (i : EntryIx) (s : State) : (servedHead i s).framer = s.framer := rfl
@[simp] theorem servedHead_engine (i : EntryIx) (s : State) : (servedHead i s).engine = s.engine := rfl
@[simp] theorem servedHead_events (i : EntryIx) (s : State) : (servedHead i s).events = s.events := rfl
@[simp] theorem servedHead_port (i : EntryIx) (s : State) : (servedHead i s).port = s.port := rfl
@[simp] theorem servedHead_now (i : EntryIx) (s : State) : (servedHead i s).now = s.now := rfl
@[simp] theorem servedHead_pending (i : EntryIx) (s : State) : (servedHead i s).pending = s.pending := rfl

/-! ## passBoundary -/

@[simp] theorem passBoundary_table (s : State) : (passBoundary s).table = s.table := rfl
@[simp] theorem passBoundary_pool (s : State) : (passBoundary s).pool = s.pool := rfl
@[simp] theorem passBoundary_params (s : State) : (passBoundary s).params = s.params := rfl
@[simp] theorem passBoundary_sweep (s : State) : (passBoundary s).sweep = s.sweep := rfl
@[simp] theorem passBoundary_line (s : State) : (passBoundary s).line = s.line := rfl
@[simp] theorem passBoundary_framer (s : State) : (passBoundary s).framer = s.framer := rfl
@[simp] theorem passBoundary_engine (s : State) : (passBoundary s).engine = s.engine := rfl
@[simp] theorem passBoundary_events (s : State) : (passBoundary s).events = s.events := rfl
@[simp] theorem passBoundary_port (s : State) : (passBoundary s).port = s.port := rfl
@[simp] theorem passBoundary_now (s : State) : (passBoundary s).now = s.now := rfl
@[simp] theorem passBoundary_pending (s : State) : (passBoundary s).pending = s.pending := rfl

/-! ## loadPace -/

@[simp] theorem loadPace_table (s : State) : (loadPace s).table = s.table := rfl
@[simp] theorem loadPace_pool (s : State) : (loadPace s).pool = s.pool := rfl
@[simp] theorem loadPace_params (s : State) : (loadPace s).params = s.params := rfl
@[simp] theorem loadPace_sweep (s : State) : (loadPace s).sweep = s.sweep := rfl
@[simp] theorem loadPace_line (s : State) : (loadPace s).line = s.line := rfl
@[simp] theorem loadPace_framer (s : State) : (loadPace s).framer = s.framer := rfl
@[simp] theorem loadPace_engine (s : State) : (loadPace s).engine = s.engine := rfl
@[simp] theorem loadPace_events (s : State) : (loadPace s).events = s.events := rfl
@[simp] theorem loadPace_port (s : State) : (loadPace s).port = s.port := rfl
@[simp] theorem loadPace_now (s : State) : (loadPace s).now = s.now := rfl
@[simp] theorem loadPace_pending (s : State) : (loadPace s).pending = s.pending := rfl

/-! ## idleEngine -/

@[simp] theorem idleEngine_table (s : State) : (idleEngine s).table = s.table := rfl
@[simp] theorem idleEngine_pool (s : State) : (idleEngine s).pool = s.pool := rfl
@[simp] theorem idleEngine_params (s : State) : (idleEngine s).params = s.params := rfl
@[simp] theorem idleEngine_sched (s : State) : (idleEngine s).sched = s.sched := rfl
@[simp] theorem idleEngine_sweep (s : State) : (idleEngine s).sweep = s.sweep := rfl
@[simp] theorem idleEngine_line (s : State) : (idleEngine s).line = s.line := rfl
@[simp] theorem idleEngine_framer (s : State) : (idleEngine s).framer = s.framer := rfl
@[simp] theorem idleEngine_events (s : State) : (idleEngine s).events = s.events := rfl
@[simp] theorem idleEngine_port (s : State) : (idleEngine s).port = s.port := rfl
@[simp] theorem idleEngine_now (s : State) : (idleEngine s).now = s.now := rfl
@[simp] theorem idleEngine_pending (s : State) : (idleEngine s).pending = s.pending := rfl

/-! ## modRecord -/

@[simp] theorem modRecord_table (f : InFlight → InFlight) (s : State) : (modRecord f s).table = s.table := rfl
@[simp] theorem modRecord_pool (f : InFlight → InFlight) (s : State) : (modRecord f s).pool = s.pool := rfl
@[simp] theorem modRecord_params (f : InFlight → InFlight) (s : State) : (modRecord f s).params = s.params := rfl
@[simp] theorem modRecord_sched (f : InFlight → InFlight) (s : State) : (modRecord f s).sched = s.sched := rfl
@[simp] theorem modRecord_sweep (f : InFlight → InFlight) (s : State) : (modRecord f s).sweep = s.sweep := rfl
@[simp] theorem modRecord_line (f : InFlight → InFlight) (s : State) : (modRecord f s).line = s.line := rfl
@[simp] theorem modRecord_framer (f : InFlight → InFlight) (s : State) : (modRecord f s).framer = s.framer := rfl
@[simp] theorem modRecord_events (f : InFlight → InFlight) (s : State) : (modRecord f s).events = s.events := rfl
@[simp] theorem modRecord_port (f : InFlight → InFlight) (s : State) : (modRecord f s).port = s.port := rfl
@[simp] theorem modRecord_now (f : InFlight → InFlight) (s : State) : (modRecord f s).now = s.now := rfl
@[simp] theorem modRecord_pending (f : InFlight → InFlight) (s : State) : (modRecord f s).pending = s.pending := rfl

/-! ## withEngineState -/

@[simp] theorem withEngineState_table (e : EngineState) (s : State) : (withEngineState e s).table = s.table := rfl
@[simp] theorem withEngineState_pool (e : EngineState) (s : State) : (withEngineState e s).pool = s.pool := rfl
@[simp] theorem withEngineState_params (e : EngineState) (s : State) : (withEngineState e s).params = s.params := rfl
@[simp] theorem withEngineState_sched (e : EngineState) (s : State) : (withEngineState e s).sched = s.sched := rfl
@[simp] theorem withEngineState_sweep (e : EngineState) (s : State) : (withEngineState e s).sweep = s.sweep := rfl
@[simp] theorem withEngineState_line (e : EngineState) (s : State) : (withEngineState e s).line = s.line := rfl
@[simp] theorem withEngineState_framer (e : EngineState) (s : State) : (withEngineState e s).framer = s.framer := rfl
@[simp] theorem withEngineState_events (e : EngineState) (s : State) : (withEngineState e s).events = s.events := rfl
@[simp] theorem withEngineState_port (e : EngineState) (s : State) : (withEngineState e s).port = s.port := rfl
@[simp] theorem withEngineState_now (e : EngineState) (s : State) : (withEngineState e s).now = s.now := rfl
@[simp] theorem withEngineState_pending (e : EngineState) (s : State) : (withEngineState e s).pending = s.pending := rfl

/-! ## stopTimers -/

@[simp] theorem stopTimers_table (s : State) : (stopTimers s).table = s.table := rfl
@[simp] theorem stopTimers_pool (s : State) : (stopTimers s).pool = s.pool := rfl
@[simp] theorem stopTimers_params (s : State) : (stopTimers s).params = s.params := rfl
@[simp] theorem stopTimers_sched (s : State) : (stopTimers s).sched = s.sched := rfl
@[simp] theorem stopTimers_sweep (s : State) : (stopTimers s).sweep = s.sweep := rfl
@[simp] theorem stopTimers_line (s : State) : (stopTimers s).line = s.line := rfl
@[simp] theorem stopTimers_framer (s : State) : (stopTimers s).framer = s.framer := rfl
@[simp] theorem stopTimers_events (s : State) : (stopTimers s).events = s.events := rfl
@[simp] theorem stopTimers_port (s : State) : (stopTimers s).port = s.port := rfl
@[simp] theorem stopTimers_now (s : State) : (stopTimers s).now = s.now := rfl
@[simp] theorem stopTimers_pending (s : State) : (stopTimers s).pending = s.pending := rfl

/-! ## enterDrain -/

@[simp] theorem enterDrain_table (s : State) : (enterDrain s).table = s.table := rfl
@[simp] theorem enterDrain_pool (s : State) : (enterDrain s).pool = s.pool := rfl
@[simp] theorem enterDrain_params (s : State) : (enterDrain s).params = s.params := rfl
@[simp] theorem enterDrain_sched (s : State) : (enterDrain s).sched = s.sched := rfl
@[simp] theorem enterDrain_sweep (s : State) : (enterDrain s).sweep = s.sweep := rfl
@[simp] theorem enterDrain_line (s : State) : (enterDrain s).line = s.line := rfl
@[simp] theorem enterDrain_framer (s : State) : (enterDrain s).framer = s.framer := rfl
@[simp] theorem enterDrain_events (s : State) : (enterDrain s).events = s.events := rfl
@[simp] theorem enterDrain_port (s : State) : (enterDrain s).port = s.port := rfl
@[simp] theorem enterDrain_now (s : State) : (enterDrain s).now = s.now := rfl
@[simp] theorem enterDrain_pending (s : State) : (enterDrain s).pending = s.pending := rfl

/-! ## discardMode -/

@[simp] theorem discardMode_table (s : State) : (discardMode s).table = s.table := rfl
@[simp] theorem discardMode_pool (s : State) : (discardMode s).pool = s.pool := rfl
@[simp] theorem discardMode_params (s : State) : (discardMode s).params = s.params := rfl
@[simp] theorem discardMode_sched (s : State) : (discardMode s).sched = s.sched := rfl
@[simp] theorem discardMode_sweep (s : State) : (discardMode s).sweep = s.sweep := rfl
@[simp] theorem discardMode_line (s : State) : (discardMode s).line = s.line := rfl
@[simp] theorem discardMode_engine (s : State) : (discardMode s).engine = s.engine := rfl
@[simp] theorem discardMode_events (s : State) : (discardMode s).events = s.events := rfl
@[simp] theorem discardMode_port (s : State) : (discardMode s).port = s.port := rfl
@[simp] theorem discardMode_now (s : State) : (discardMode s).now = s.now := rfl
@[simp] theorem discardMode_pending (s : State) : (discardMode s).pending = s.pending := rfl

/-! ## beginTransmission -/

@[simp] theorem beginTransmission_table (cs : List Byte) (s : State) : (beginTransmission cs s).table = s.table := rfl
@[simp] theorem beginTransmission_pool (cs : List Byte) (s : State) : (beginTransmission cs s).pool = s.pool := rfl
@[simp] theorem beginTransmission_params (cs : List Byte) (s : State) : (beginTransmission cs s).params = s.params := rfl
@[simp] theorem beginTransmission_sched (cs : List Byte) (s : State) : (beginTransmission cs s).sched = s.sched := rfl
@[simp] theorem beginTransmission_sweep (cs : List Byte) (s : State) : (beginTransmission cs s).sweep = s.sweep := rfl
@[simp] theorem beginTransmission_line (cs : List Byte) (s : State) : (beginTransmission cs s).line = s.line := rfl
@[simp] theorem beginTransmission_engine (cs : List Byte) (s : State) : (beginTransmission cs s).engine = s.engine := rfl
@[simp] theorem beginTransmission_events (cs : List Byte) (s : State) : (beginTransmission cs s).events = s.events := rfl
@[simp] theorem beginTransmission_port (cs : List Byte) (s : State) : (beginTransmission cs s).port = s.port := rfl
@[simp] theorem beginTransmission_now (cs : List Byte) (s : State) : (beginTransmission cs s).now = s.now := rfl
@[simp] theorem beginTransmission_pending (cs : List Byte) (s : State) : (beginTransmission cs s).pending = s.pending := rfl

/-! ## modFramer -/

@[simp] theorem modFramer_table (f : Framer → Framer) (s : State) : (modFramer f s).table = s.table := rfl
@[simp] theorem modFramer_pool (f : Framer → Framer) (s : State) : (modFramer f s).pool = s.pool := rfl
@[simp] theorem modFramer_params (f : Framer → Framer) (s : State) : (modFramer f s).params = s.params := rfl
@[simp] theorem modFramer_sched (f : Framer → Framer) (s : State) : (modFramer f s).sched = s.sched := rfl
@[simp] theorem modFramer_sweep (f : Framer → Framer) (s : State) : (modFramer f s).sweep = s.sweep := rfl
@[simp] theorem modFramer_line (f : Framer → Framer) (s : State) : (modFramer f s).line = s.line := rfl
@[simp] theorem modFramer_engine (f : Framer → Framer) (s : State) : (modFramer f s).engine = s.engine := rfl
@[simp] theorem modFramer_events (f : Framer → Framer) (s : State) : (modFramer f s).events = s.events := rfl
@[simp] theorem modFramer_port (f : Framer → Framer) (s : State) : (modFramer f s).port = s.port := rfl
@[simp] theorem modFramer_now (f : Framer → Framer) (s : State) : (modFramer f s).now = s.now := rfl
@[simp] theorem modFramer_pending (f : Framer → Framer) (s : State) : (modFramer f s).pending = s.pending := rfl

/-! ## countStray -/

@[simp] theorem countStray_table (s : State) : (countStray s).table = s.table := rfl
@[simp] theorem countStray_pool (s : State) : (countStray s).pool = s.pool := rfl
@[simp] theorem countStray_params (s : State) : (countStray s).params = s.params := rfl
@[simp] theorem countStray_sched (s : State) : (countStray s).sched = s.sched := rfl
@[simp] theorem countStray_sweep (s : State) : (countStray s).sweep = s.sweep := rfl
@[simp] theorem countStray_framer (s : State) : (countStray s).framer = s.framer := rfl
@[simp] theorem countStray_engine (s : State) : (countStray s).engine = s.engine := rfl
@[simp] theorem countStray_events (s : State) : (countStray s).events = s.events := rfl
@[simp] theorem countStray_port (s : State) : (countStray s).port = s.port := rfl
@[simp] theorem countStray_now (s : State) : (countStray s).now = s.now := rfl
@[simp] theorem countStray_pending (s : State) : (countStray s).pending = s.pending := rfl

/-! ## countNoise -/

@[simp] theorem countNoise_table (s : State) : (countNoise s).table = s.table := rfl
@[simp] theorem countNoise_pool (s : State) : (countNoise s).pool = s.pool := rfl
@[simp] theorem countNoise_params (s : State) : (countNoise s).params = s.params := rfl
@[simp] theorem countNoise_sched (s : State) : (countNoise s).sched = s.sched := rfl
@[simp] theorem countNoise_sweep (s : State) : (countNoise s).sweep = s.sweep := rfl
@[simp] theorem countNoise_framer (s : State) : (countNoise s).framer = s.framer := rfl
@[simp] theorem countNoise_engine (s : State) : (countNoise s).engine = s.engine := rfl
@[simp] theorem countNoise_events (s : State) : (countNoise s).events = s.events := rfl
@[simp] theorem countNoise_port (s : State) : (countNoise s).port = s.port := rfl
@[simp] theorem countNoise_now (s : State) : (countNoise s).now = s.now := rfl
@[simp] theorem countNoise_pending (s : State) : (countNoise s).pending = s.pending := rfl

/-! ## modPort -/

@[simp] theorem modPort_table (f : Port → Port) (s : State) : (modPort f s).table = s.table := rfl
@[simp] theorem modPort_pool (f : Port → Port) (s : State) : (modPort f s).pool = s.pool := rfl
@[simp] theorem modPort_params (f : Port → Port) (s : State) : (modPort f s).params = s.params := rfl
@[simp] theorem modPort_sched (f : Port → Port) (s : State) : (modPort f s).sched = s.sched := rfl
@[simp] theorem modPort_sweep (f : Port → Port) (s : State) : (modPort f s).sweep = s.sweep := rfl
@[simp] theorem modPort_line (f : Port → Port) (s : State) : (modPort f s).line = s.line := rfl
@[simp] theorem modPort_framer (f : Port → Port) (s : State) : (modPort f s).framer = s.framer := rfl
@[simp] theorem modPort_engine (f : Port → Port) (s : State) : (modPort f s).engine = s.engine := rfl
@[simp] theorem modPort_events (f : Port → Port) (s : State) : (modPort f s).events = s.events := rfl
@[simp] theorem modPort_now (f : Port → Port) (s : State) : (modPort f s).now = s.now := rfl
@[simp] theorem modPort_pending (f : Port → Port) (s : State) : (modPort f s).pending = s.pending := rfl

/-! ## withLineState -/

@[simp] theorem withLineState_table (l : LineState) (s : State) : (withLineState l s).table = s.table := rfl
@[simp] theorem withLineState_pool (l : LineState) (s : State) : (withLineState l s).pool = s.pool := rfl
@[simp] theorem withLineState_params (l : LineState) (s : State) : (withLineState l s).params = s.params := rfl
@[simp] theorem withLineState_sched (l : LineState) (s : State) : (withLineState l s).sched = s.sched := rfl
@[simp] theorem withLineState_sweep (l : LineState) (s : State) : (withLineState l s).sweep = s.sweep := rfl
@[simp] theorem withLineState_framer (l : LineState) (s : State) : (withLineState l s).framer = s.framer := rfl
@[simp] theorem withLineState_engine (l : LineState) (s : State) : (withLineState l s).engine = s.engine := rfl
@[simp] theorem withLineState_events (l : LineState) (s : State) : (withLineState l s).events = s.events := rfl
@[simp] theorem withLineState_port (l : LineState) (s : State) : (withLineState l s).port = s.port := rfl
@[simp] theorem withLineState_now (l : LineState) (s : State) : (withLineState l s).now = s.now := rfl
@[simp] theorem withLineState_pending (l : LineState) (s : State) : (withLineState l s).pending = s.pending := rfl

/-! ## lineRun -/

@[simp] theorem lineRun_table (s : State) : (lineRun s).table = s.table := rfl
@[simp] theorem lineRun_pool (s : State) : (lineRun s).pool = s.pool := rfl
@[simp] theorem lineRun_params (s : State) : (lineRun s).params = s.params := rfl
@[simp] theorem lineRun_sched (s : State) : (lineRun s).sched = s.sched := rfl
@[simp] theorem lineRun_sweep (s : State) : (lineRun s).sweep = s.sweep := rfl
@[simp] theorem lineRun_framer (s : State) : (lineRun s).framer = s.framer := rfl
@[simp] theorem lineRun_engine (s : State) : (lineRun s).engine = s.engine := rfl
@[simp] theorem lineRun_events (s : State) : (lineRun s).events = s.events := rfl
@[simp] theorem lineRun_port (s : State) : (lineRun s).port = s.port := rfl
@[simp] theorem lineRun_now (s : State) : (lineRun s).now = s.now := rfl
@[simp] theorem lineRun_pending (s : State) : (lineRun s).pending = s.pending := rfl

/-! ## clearAll -/

@[simp] theorem clearAll_pool (s : State) : (clearAll s).pool = s.pool := rfl
@[simp] theorem clearAll_params (s : State) : (clearAll s).params = s.params := rfl
@[simp] theorem clearAll_sched (s : State) : (clearAll s).sched = s.sched := rfl
@[simp] theorem clearAll_sweep (s : State) : (clearAll s).sweep = s.sweep := rfl
@[simp] theorem clearAll_line (s : State) : (clearAll s).line = s.line := rfl
@[simp] theorem clearAll_framer (s : State) : (clearAll s).framer = s.framer := rfl
@[simp] theorem clearAll_engine (s : State) : (clearAll s).engine = s.engine := rfl
@[simp] theorem clearAll_events (s : State) : (clearAll s).events = s.events := rfl
@[simp] theorem clearAll_port (s : State) : (clearAll s).port = s.port := rfl
@[simp] theorem clearAll_now (s : State) : (clearAll s).now = s.now := rfl
@[simp] theorem clearAll_pending (s : State) : (clearAll s).pending = s.pending := rfl

/-! ## The fields an update sets -/

@[simp] theorem withEntry_table (i : EntryIx) (e : Entry) (s : State) :
    (withEntry i e s).table = s.table.set i e := rfl
@[simp] theorem modEntry_table (i : EntryIx) (f : Entry → Entry) (s : State) :
    (modEntry i f s).table = s.table.set i (f s.table[i]) := rfl
@[simp] theorem modBuffer_buffers (b : BufIx) (f : Buffer → Buffer) (s : State) :
    (modBuffer b f s).pool.buffers = s.pool.buffers.set b (f s.pool.buffers[b]) := rfl
@[simp] theorem modBuffer_outbound (b : BufIx) (f : Buffer → Buffer) (s : State) :
    (modBuffer b f s).pool.outbound = s.pool.outbound := rfl
@[simp] theorem setMark_outbound (b : BufIx) (m : Mark) (s : State) :
    (setMark b m s).pool.outbound = s.pool.outbound := rfl
@[simp] theorem modBuffer_broadcast (b : BufIx) (f : Buffer → Buffer) (s : State) :
    (modBuffer b f s).pool.broadcast = s.pool.broadcast := rfl
@[simp] theorem setMark_broadcast (b : BufIx) (m : Mark) (s : State) :
    (setMark b m s).pool.broadcast = s.pool.broadcast := rfl
@[simp] theorem modBuffer_staged (b : BufIx) (f : Buffer → Buffer) (s : State) :
    (modBuffer b f s).pool.staged = s.pool.staged := rfl
@[simp] theorem setMark_staged (b : BufIx) (m : Mark) (s : State) :
    (setMark b m s).pool.staged = s.pool.staged := rfl
@[simp] theorem modBuffer_inbound (b : BufIx) (f : Buffer → Buffer) (s : State) :
    (modBuffer b f s).pool.inbound = s.pool.inbound := rfl
@[simp] theorem setMark_inbound (b : BufIx) (m : Mark) (s : State) :
    (setMark b m s).pool.inbound = s.pool.inbound := rfl
@[simp] theorem modBuffer_readPort (b : BufIx) (f : Buffer → Buffer) (s : State) :
    (modBuffer b f s).pool.readPort = s.pool.readPort := rfl
@[simp] theorem setMark_readPort (b : BufIx) (m : Mark) (s : State) :
    (setMark b m s).pool.readPort = s.pool.readPort := rfl
@[simp] theorem modBuffer_reserved (b : BufIx) (f : Buffer → Buffer) (s : State) :
    (modBuffer b f s).pool.reserved = s.pool.reserved := rfl
@[simp] theorem setMark_reserved (b : BufIx) (m : Mark) (s : State) :
    (setMark b m s).pool.reserved = s.pool.reserved := rfl
@[simp] theorem modBuffer_broadcastNum (b : BufIx) (f : Buffer → Buffer) (s : State) :
    (modBuffer b f s).pool.broadcastNum = s.pool.broadcastNum := rfl
@[simp] theorem setMark_broadcastNum (b : BufIx) (m : Mark) (s : State) :
    (setMark b m s).pool.broadcastNum = s.pool.broadcastNum := rfl
@[simp] theorem withOutbound_buffers (i : EntryIx) (bs : List BufIx) (s : State) :
    (withOutbound i bs s).pool.buffers = s.pool.buffers := rfl
@[simp] theorem withOutbound_broadcast (i : EntryIx) (bs : List BufIx) (s : State) :
    (withOutbound i bs s).pool.broadcast = s.pool.broadcast := rfl
@[simp] theorem withOutbound_staged (i : EntryIx) (bs : List BufIx) (s : State) :
    (withOutbound i bs s).pool.staged = s.pool.staged := rfl
@[simp] theorem withOutbound_inbound (i : EntryIx) (bs : List BufIx) (s : State) :
    (withOutbound i bs s).pool.inbound = s.pool.inbound := rfl
@[simp] theorem withOutbound_readPort (i : EntryIx) (bs : List BufIx) (s : State) :
    (withOutbound i bs s).pool.readPort = s.pool.readPort := rfl
@[simp] theorem withOutbound_reserved (i : EntryIx) (bs : List BufIx) (s : State) :
    (withOutbound i bs s).pool.reserved = s.pool.reserved := rfl
@[simp] theorem withOutbound_broadcastNum (i : EntryIx) (bs : List BufIx) (s : State) :
    (withOutbound i bs s).pool.broadcastNum = s.pool.broadcastNum := rfl
@[simp] theorem withOutbound_outbound (i : EntryIx) (bs : List BufIx) (s : State) :
    (withOutbound i bs s).pool.outbound = s.pool.outbound.set i bs := rfl
@[simp] theorem modBuffer_held (b : BufIx) (f : Buffer → Buffer) (s : State) :
    (modBuffer b f s).pool.held = s.pool.held := rfl
@[simp] theorem setMark_held (b : BufIx) (m : Mark) (s : State) :
    (setMark b m s).pool.held = s.pool.held := rfl
@[simp] theorem hostError_latch (h : HostError) (s : State) :
    (hostError h s).port.latch = s.port.latch.raise h := rfl
@[simp] theorem arrival_lookDue (s : State) :
    (arrival s).sched.lookDue = true := rfl
@[simp] theorem wake_lookDue (s : State) :
    (wake s).sched.lookDue = true := rfl
@[simp] theorem wake_run (s : State) :
    (wake s).sched.run = {} := rfl
@[simp] theorem wake_urgent (s : State) :
    (wake s).sched.urgent = s.sched.urgent := rfl
@[simp] theorem wake_ring (s : State) :
    (wake s).sched.ring = s.sched.ring := rfl
@[simp] theorem dropUrgent_table (i : EntryIx) (s : State) :
    (dropUrgent i s).table = s.table.set i { s.table[i] with urgentListed := false } := rfl
@[simp] theorem dropUrgent_urgent (i : EntryIx) (s : State) :
    (dropUrgent i s).sched.urgent = s.sched.urgent.filter fun j => j != i := rfl
@[simp] theorem listUrgent_table (i : EntryIx) (s : State) :
    (listUrgent i s).table = s.table.set i { s.table[i] with urgentListed := true } := rfl
@[simp] theorem listUrgent_urgent (i : EntryIx) (s : State) :
    (listUrgent i s).sched.urgent = s.sched.urgent ++ [i] := rfl
@[simp] theorem advanceTo_now (t : Nat) (s : State) :
    (advanceTo t s).now = max s.now t := rfl
@[simp] theorem quietRequest_state (s : State) :
    (quietRequest s).line.state = s.line.state := rfl
@[simp] theorem quietRequest_cfg (s : State) :
    (quietRequest s).line.cfg = s.line.cfg := rfl
@[simp] theorem quietRequest_isSome (s : State) :
    (quietRequest s).line.quiet.isSome = true := rfl
@[simp] theorem framerStop_driverEnable (h : Bool) (s : State) :
    (framerStop h s).framer.driverEnable = false := rfl
@[simp] theorem framerStop_tx (h : Bool) (s : State) :
    (framerStop h s).framer.tx = none := rfl
@[simp] theorem framerStop_guardEnd (h : Bool) (s : State) :
    (framerStop h s).framer.guardEnd = none := rfl
@[simp] theorem idleEngine_engine (s : State) :
    (idleEngine s).engine = {} := rfl
@[simp] theorem withEngineState_state (e : EngineState) (s : State) :
    (withEngineState e s).engine.state = e := rfl
@[simp] theorem withEngineState_record (e : EngineState) (s : State) :
    (withEngineState e s).engine.record = s.engine.record := rfl
@[simp] theorem modRecord_state (f : InFlight → InFlight) (s : State) :
    (modRecord f s).engine.state = s.engine.state := rfl
@[simp] theorem modRecord_record (f : InFlight → InFlight) (s : State) :
    (modRecord f s).engine.record = s.engine.record.map f := rfl
@[simp] theorem stopTimers_state (s : State) :
    (stopTimers s).engine.state = s.engine.state := rfl
@[simp] theorem stopTimers_record (s : State) :
    (stopTimers s).engine.record = s.engine.record := rfl
@[simp] theorem enterDrain_state (s : State) :
    (enterDrain s).engine.state = .drain := rfl
@[simp] theorem enterDrain_record (s : State) :
    (enterDrain s).engine.record = s.engine.record := rfl
@[simp] theorem withSweep_sweep (w : Sweep) (s : State) :
    (withSweep w s).sweep = w := rfl
@[simp] theorem modFramer_framer (f : Framer → Framer) (s : State) :
    (modFramer f s).framer = f s.framer := rfl
@[simp] theorem modPort_port (f : Port → Port) (s : State) :
    (modPort f s).port = f s.port := rfl

/-! ## The updates with cases -/

@[simp] theorem post_table (e : Event) (s : State) : (post e s).table = s.table := by unfold post; split <;> [split <;> rfl; rfl]
@[simp] theorem post_pool (e : Event) (s : State) : (post e s).pool = s.pool := by unfold post; split <;> [split <;> rfl; rfl]
@[simp] theorem post_params (e : Event) (s : State) : (post e s).params = s.params := by unfold post; split <;> [split <;> rfl; rfl]
@[simp] theorem post_sched (e : Event) (s : State) : (post e s).sched = s.sched := by unfold post; split <;> [split <;> rfl; rfl]
@[simp] theorem post_sweep (e : Event) (s : State) : (post e s).sweep = s.sweep := by unfold post; split <;> [split <;> rfl; rfl]
@[simp] theorem post_line (e : Event) (s : State) : (post e s).line = s.line := by unfold post; split <;> [split <;> rfl; rfl]
@[simp] theorem post_framer (e : Event) (s : State) : (post e s).framer = s.framer := by unfold post; split <;> [split <;> rfl; rfl]
@[simp] theorem post_engine (e : Event) (s : State) : (post e s).engine = s.engine := by unfold post; split <;> [split <;> rfl; rfl]
@[simp] theorem post_port (e : Event) (s : State) : (post e s).port = s.port := by unfold post; split <;> [split <;> rfl; rfl]
@[simp] theorem post_now (e : Event) (s : State) : (post e s).now = s.now := by unfold post; split <;> [split <;> rfl; rfl]
@[simp] theorem post_pending (e : Event) (s : State) : (post e s).pending = s.pending := by unfold post; split <;> [split <;> rfl; rfl]

@[simp] theorem bufferFreed_table (s : State) : (bufferFreed s).table = s.table := by unfold bufferFreed; (repeat' split) <;> rfl
@[simp] theorem bufferFreed_pool (s : State) : (bufferFreed s).pool = s.pool := by unfold bufferFreed; (repeat' split) <;> rfl
@[simp] theorem bufferFreed_params (s : State) : (bufferFreed s).params = s.params := by unfold bufferFreed; (repeat' split) <;> rfl
@[simp] theorem bufferFreed_sweep (s : State) : (bufferFreed s).sweep = s.sweep := by unfold bufferFreed; (repeat' split) <;> rfl
@[simp] theorem bufferFreed_line (s : State) : (bufferFreed s).line = s.line := by unfold bufferFreed; (repeat' split) <;> rfl
@[simp] theorem bufferFreed_framer (s : State) : (bufferFreed s).framer = s.framer := by unfold bufferFreed; (repeat' split) <;> rfl
@[simp] theorem bufferFreed_engine (s : State) : (bufferFreed s).engine = s.engine := by unfold bufferFreed; (repeat' split) <;> rfl
@[simp] theorem bufferFreed_events (s : State) : (bufferFreed s).events = s.events := by unfold bufferFreed; (repeat' split) <;> rfl
@[simp] theorem bufferFreed_port (s : State) : (bufferFreed s).port = s.port := by unfold bufferFreed; (repeat' split) <;> rfl
@[simp] theorem bufferFreed_now (s : State) : (bufferFreed s).now = s.now := by unfold bufferFreed; (repeat' split) <;> rfl
@[simp] theorem bufferFreed_pending (s : State) : (bufferFreed s).pending = s.pending := by unfold bufferFreed; (repeat' split) <;> rfl

@[simp] theorem activityNotice_table (s : State) : (activityNotice s).table = s.table := by unfold activityNotice; split <;> rfl
@[simp] theorem activityNotice_pool (s : State) : (activityNotice s).pool = s.pool := by unfold activityNotice; split <;> rfl
@[simp] theorem activityNotice_params (s : State) : (activityNotice s).params = s.params := by unfold activityNotice; split <;> rfl
@[simp] theorem activityNotice_sched (s : State) : (activityNotice s).sched = s.sched := by unfold activityNotice; split <;> rfl
@[simp] theorem activityNotice_sweep (s : State) : (activityNotice s).sweep = s.sweep := by unfold activityNotice; split <;> rfl
@[simp] theorem activityNotice_framer (s : State) : (activityNotice s).framer = s.framer := by unfold activityNotice; split <;> rfl
@[simp] theorem activityNotice_engine (s : State) : (activityNotice s).engine = s.engine := by unfold activityNotice; split <;> rfl
@[simp] theorem activityNotice_events (s : State) : (activityNotice s).events = s.events := by unfold activityNotice; split <;> rfl
@[simp] theorem activityNotice_port (s : State) : (activityNotice s).port = s.port := by unfold activityNotice; split <;> rfl
@[simp] theorem activityNotice_now (s : State) : (activityNotice s).now = s.now := by unfold activityNotice; split <;> rfl
@[simp] theorem activityNotice_pending (s : State) : (activityNotice s).pending = s.pending := by unfold activityNotice; split <;> rfl

@[simp] theorem raiseContention_table (s : State) : (raiseContention s).table = s.table := by unfold raiseContention; split <;> rfl
@[simp] theorem raiseContention_pool (s : State) : (raiseContention s).pool = s.pool := by unfold raiseContention; split <;> rfl
@[simp] theorem raiseContention_params (s : State) : (raiseContention s).params = s.params := by unfold raiseContention; split <;> rfl
@[simp] theorem raiseContention_sched (s : State) : (raiseContention s).sched = s.sched := by unfold raiseContention; split <;> rfl
@[simp] theorem raiseContention_sweep (s : State) : (raiseContention s).sweep = s.sweep := by unfold raiseContention; split <;> rfl
@[simp] theorem raiseContention_framer (s : State) : (raiseContention s).framer = s.framer := by unfold raiseContention; split <;> rfl
@[simp] theorem raiseContention_engine (s : State) : (raiseContention s).engine = s.engine := by unfold raiseContention; split <;> rfl
@[simp] theorem raiseContention_events (s : State) : (raiseContention s).events = s.events := by unfold raiseContention; split <;> rfl
@[simp] theorem raiseContention_port (s : State) : (raiseContention s).port = s.port := by unfold raiseContention; split <;> rfl
@[simp] theorem raiseContention_now (s : State) : (raiseContention s).now = s.now := by unfold raiseContention; split <;> rfl
@[simp] theorem raiseContention_pending (s : State) : (raiseContention s).pending = s.pending := by unfold raiseContention; split <;> rfl

@[simp] theorem cleanVerdict_table (s : State) : (cleanVerdict s).table = s.table := by unfold cleanVerdict; split <;> rfl
@[simp] theorem cleanVerdict_pool (s : State) : (cleanVerdict s).pool = s.pool := by unfold cleanVerdict; split <;> rfl
@[simp] theorem cleanVerdict_params (s : State) : (cleanVerdict s).params = s.params := by unfold cleanVerdict; split <;> rfl
@[simp] theorem cleanVerdict_sched (s : State) : (cleanVerdict s).sched = s.sched := by unfold cleanVerdict; split <;> rfl
@[simp] theorem cleanVerdict_sweep (s : State) : (cleanVerdict s).sweep = s.sweep := by unfold cleanVerdict; split <;> rfl
@[simp] theorem cleanVerdict_framer (s : State) : (cleanVerdict s).framer = s.framer := by unfold cleanVerdict; split <;> rfl
@[simp] theorem cleanVerdict_engine (s : State) : (cleanVerdict s).engine = s.engine := by unfold cleanVerdict; split <;> rfl
@[simp] theorem cleanVerdict_events (s : State) : (cleanVerdict s).events = s.events := by unfold cleanVerdict; split <;> rfl
@[simp] theorem cleanVerdict_port (s : State) : (cleanVerdict s).port = s.port := by unfold cleanVerdict; split <;> rfl
@[simp] theorem cleanVerdict_now (s : State) : (cleanVerdict s).now = s.now := by unfold cleanVerdict; split <;> rfl
@[simp] theorem cleanVerdict_pending (s : State) : (cleanVerdict s).pending = s.pending := by unfold cleanVerdict; split <;> rfl

@[simp] theorem releaseReservation_table (s : State) : (releaseReservation s).table = s.table := by unfold releaseReservation; split <;> simp
@[simp] theorem releaseReservation_params (s : State) : (releaseReservation s).params = s.params := by unfold releaseReservation; split <;> simp
@[simp] theorem releaseReservation_sweep (s : State) : (releaseReservation s).sweep = s.sweep := by unfold releaseReservation; split <;> simp
@[simp] theorem releaseReservation_line (s : State) : (releaseReservation s).line = s.line := by unfold releaseReservation; split <;> simp
@[simp] theorem releaseReservation_framer (s : State) : (releaseReservation s).framer = s.framer := by unfold releaseReservation; split <;> simp
@[simp] theorem releaseReservation_engine (s : State) : (releaseReservation s).engine = s.engine := by unfold releaseReservation; split <;> simp
@[simp] theorem releaseReservation_events (s : State) : (releaseReservation s).events = s.events := by unfold releaseReservation; split <;> simp
@[simp] theorem releaseReservation_port (s : State) : (releaseReservation s).port = s.port := by unfold releaseReservation; split <;> simp
@[simp] theorem releaseReservation_now (s : State) : (releaseReservation s).now = s.now := by unfold releaseReservation; split <;> simp
@[simp] theorem releaseReservation_pending (s : State) : (releaseReservation s).pending = s.pending := by unfold releaseReservation; split <;> simp

@[simp] theorem departBroadcast_table (b : BufIx) (s : State) : (departBroadcast b s).table = s.table := by simp [departBroadcast]
@[simp] theorem departBroadcast_params (b : BufIx) (s : State) : (departBroadcast b s).params = s.params := by simp [departBroadcast]
@[simp] theorem departBroadcast_sweep (b : BufIx) (s : State) : (departBroadcast b s).sweep = s.sweep := by simp [departBroadcast]
@[simp] theorem departBroadcast_line (b : BufIx) (s : State) : (departBroadcast b s).line = s.line := by simp [departBroadcast]
@[simp] theorem departBroadcast_framer (b : BufIx) (s : State) : (departBroadcast b s).framer = s.framer := by simp [departBroadcast]
@[simp] theorem departBroadcast_engine (b : BufIx) (s : State) : (departBroadcast b s).engine = s.engine := by simp [departBroadcast]
@[simp] theorem departBroadcast_events (b : BufIx) (s : State) : (departBroadcast b s).events = s.events := by simp [departBroadcast]
@[simp] theorem departBroadcast_port (b : BufIx) (s : State) : (departBroadcast b s).port = s.port := by simp [departBroadcast]
@[simp] theorem departBroadcast_now (b : BufIx) (s : State) : (departBroadcast b s).now = s.now := by simp [departBroadcast]
@[simp] theorem departBroadcast_pending (b : BufIx) (s : State) : (departBroadcast b s).pending = s.pending := by simp [departBroadcast]

@[simp] theorem depart_params (i : EntryIx) (b : BufIx) (s : State) : (depart i b s).params = s.params := by simp [depart]
@[simp] theorem depart_sweep (i : EntryIx) (b : BufIx) (s : State) : (depart i b s).sweep = s.sweep := by simp [depart]
@[simp] theorem depart_line (i : EntryIx) (b : BufIx) (s : State) : (depart i b s).line = s.line := by simp [depart]
@[simp] theorem depart_framer (i : EntryIx) (b : BufIx) (s : State) : (depart i b s).framer = s.framer := by simp [depart]
@[simp] theorem depart_engine (i : EntryIx) (b : BufIx) (s : State) : (depart i b s).engine = s.engine := by simp [depart]
@[simp] theorem depart_events (i : EntryIx) (b : BufIx) (s : State) : (depart i b s).events = s.events := by simp [depart]
@[simp] theorem depart_port (i : EntryIx) (b : BufIx) (s : State) : (depart i b s).port = s.port := by simp [depart]
@[simp] theorem depart_now (i : EntryIx) (b : BufIx) (s : State) : (depart i b s).now = s.now := by simp [depart]
@[simp] theorem depart_pending (i : EntryIx) (b : BufIx) (s : State) : (depart i b s).pending = s.pending := by simp [depart]

@[simp] theorem postEntry_table (c : EventCode) (i : EntryIx) (id : Byte) (d : Nat) (s : State) : (postEntry c i id d s).table = s.table := by simp [postEntry]
@[simp] theorem postEntry_pool (c : EventCode) (i : EntryIx) (id : Byte) (d : Nat) (s : State) : (postEntry c i id d s).pool = s.pool := by simp [postEntry]
@[simp] theorem postEntry_params (c : EventCode) (i : EntryIx) (id : Byte) (d : Nat) (s : State) : (postEntry c i id d s).params = s.params := by simp [postEntry]
@[simp] theorem postEntry_sched (c : EventCode) (i : EntryIx) (id : Byte) (d : Nat) (s : State) : (postEntry c i id d s).sched = s.sched := by simp [postEntry]
@[simp] theorem postEntry_sweep (c : EventCode) (i : EntryIx) (id : Byte) (d : Nat) (s : State) : (postEntry c i id d s).sweep = s.sweep := by simp [postEntry]
@[simp] theorem postEntry_line (c : EventCode) (i : EntryIx) (id : Byte) (d : Nat) (s : State) : (postEntry c i id d s).line = s.line := by simp [postEntry]
@[simp] theorem postEntry_framer (c : EventCode) (i : EntryIx) (id : Byte) (d : Nat) (s : State) : (postEntry c i id d s).framer = s.framer := by simp [postEntry]
@[simp] theorem postEntry_engine (c : EventCode) (i : EntryIx) (id : Byte) (d : Nat) (s : State) : (postEntry c i id d s).engine = s.engine := by simp [postEntry]
@[simp] theorem postEntry_port (c : EventCode) (i : EntryIx) (id : Byte) (d : Nat) (s : State) : (postEntry c i id d s).port = s.port := by simp [postEntry]
@[simp] theorem postEntry_now (c : EventCode) (i : EntryIx) (id : Byte) (d : Nat) (s : State) : (postEntry c i id d s).now = s.now := by simp [postEntry]
@[simp] theorem postEntry_pending (c : EventCode) (i : EntryIx) (id : Byte) (d : Nat) (s : State) : (postEntry c i id d s).pending = s.pending := by simp [postEntry]

@[simp] theorem departWith_params (i : EntryIx) (b : BufIx) (c : EventCode) (d : Nat) (s : State) : (departWith i b c d s).params = s.params := by simp [departWith]
@[simp] theorem departWith_sweep (i : EntryIx) (b : BufIx) (c : EventCode) (d : Nat) (s : State) : (departWith i b c d s).sweep = s.sweep := by simp [departWith]
@[simp] theorem departWith_line (i : EntryIx) (b : BufIx) (c : EventCode) (d : Nat) (s : State) : (departWith i b c d s).line = s.line := by simp [departWith]
@[simp] theorem departWith_framer (i : EntryIx) (b : BufIx) (c : EventCode) (d : Nat) (s : State) : (departWith i b c d s).framer = s.framer := by simp [departWith]
@[simp] theorem departWith_engine (i : EntryIx) (b : BufIx) (c : EventCode) (d : Nat) (s : State) : (departWith i b c d s).engine = s.engine := by simp [departWith]
@[simp] theorem departWith_port (i : EntryIx) (b : BufIx) (c : EventCode) (d : Nat) (s : State) : (departWith i b c d s).port = s.port := by simp [departWith]
@[simp] theorem departWith_now (i : EntryIx) (b : BufIx) (c : EventCode) (d : Nat) (s : State) : (departWith i b c d s).now = s.now := by simp [departWith]
@[simp] theorem departWith_pending (i : EntryIx) (b : BufIx) (c : EventCode) (d : Nat) (s : State) : (departWith i b c d s).pending = s.pending := by simp [departWith]

@[simp] theorem retire_params (i : EntryIx) (s : State) : (retire i s).params = s.params := by simp [retire]
@[simp] theorem retire_sched (i : EntryIx) (s : State) : (retire i s).sched = s.sched := by simp [retire]
@[simp] theorem retire_sweep (i : EntryIx) (s : State) : (retire i s).sweep = s.sweep := by simp [retire]
@[simp] theorem retire_line (i : EntryIx) (s : State) : (retire i s).line = s.line := by simp [retire]
@[simp] theorem retire_framer (i : EntryIx) (s : State) : (retire i s).framer = s.framer := by simp [retire]
@[simp] theorem retire_engine (i : EntryIx) (s : State) : (retire i s).engine = s.engine := by simp [retire]
@[simp] theorem retire_port (i : EntryIx) (s : State) : (retire i s).port = s.port := by simp [retire]
@[simp] theorem retire_now (i : EntryIx) (s : State) : (retire i s).now = s.now := by simp [retire]
@[simp] theorem retire_pending (i : EntryIx) (s : State) : (retire i s).pending = s.pending := by simp [retire]

end Sys2Proof.Machine
end

