-- ==== Sys2Proof/Laws/Ops.lean ====
section
/-! SUPPORT. One lemma for each shared operation that says once everything it can do, and the small facts about the tables they work
on: the provers cite these and do not unfold the operations. -/

namespace Sys2Proof.Machine

/-! ## Tables -/

theorem table_set_same (v : Vector Entry 32) (i : EntryIx) (e : Entry) : (v.set i e)[i] = e := by simp

theorem table_set_other (v : Vector Entry 32) (i j : EntryIx) (e : Entry) (h : j ≠ i) : (v.set i e)[j] = v[j] := by
  have : i.val ≠ j.val := fun g => h (Fin.ext g.symm)
  simp [this]

theorem outbound_set_same (v : Vector (List BufIx) 32) (i : EntryIx) (bs : List BufIx) : (v.set i bs)[i] = bs := by simp

theorem outbound_set_other (v : Vector (List BufIx) 32) (i j : EntryIx) (bs : List BufIx) (h : j ≠ i) :
    (v.set i bs)[j] = v[j] := by
  have : i.val ≠ j.val := fun g => h (Fin.ext g.symm)
  simp [this]

theorem buffers_set_same (v : Vector Buffer 24) (b : BufIx) (x : Buffer) : (v.set b x)[b] = x := by simp

theorem buffers_set_other (v : Vector Buffer 24) (b c : BufIx) (x : Buffer) (h : c ≠ b) : (v.set b x)[c] = v[c] := by
  have : b.val ≠ c.val := fun g => h (Fin.ext g.symm)
  simp [this]

/-! ## Searches -/

/-- The search of a table from index 0 up finds the lowest index that passes. -/
theorem find_lowest {n : Nat} (p : Fin n → Bool) (i : Fin n) (hp : p i = true) (hlow : ∀ j, j < i → p j = false) :
    (List.finRange n).find? p = some i := by
  rw [List.find?_eq_some_iff_append]
  refine ⟨hp, (List.finRange n).take i.val, (List.finRange n).drop (i.val + 1), ?_, ?_⟩
  · conv_lhs => rw [← List.take_append_drop i.val (List.finRange n)]
    rw [List.drop_eq_getElem_cons (by simp)]
    simp
  · intro j hj
    obtain ⟨k, hk, rfl⟩ := List.mem_take_iff_getElem.1 hj
    have low := hlow ((List.finRange n)[k]'(by simp at hk ⊢; omega)) (by simp [Fin.lt_def] at hk ⊢; omega)
    simpa using low

/-- A search that finds an index finds one that passes. -/
theorem find_passes {n : Nat} {p : Fin n → Bool} {i : Fin n} (h : (List.finRange n).find? p = some i) : p i = true :=
  List.find?_some h

/-- What the lowest EMPTY entry is (R35). -/
theorem lowestEmpty_state {s : State} {i : EntryIx} (h : lowestEmpty s = some i) : s.table[i].state = .empty := by
  simpa using find_passes h

theorem lowestEmpty_none_iff (s : State) : lowestEmpty s = none ↔ ∀ i : EntryIx, s.table[i].state ≠ .empty := by
  simp [lowestEmpty]

/-- What the holder of an address is (R22). -/
theorem holderOf_spec {a : Nat} {s : State} {i : EntryIx} (h : holderOf a s = some i) :
    s.table[i].state ≠ .empty ∧ s.table[i].address = a := by
  simpa using find_passes h

theorem holderOf_none_iff (a : Nat) (s : State) :
    holderOf a s = none ↔ ∀ i : EntryIx, s.table[i].state ≠ .empty → s.table[i].address ≠ a := by
  simp [holderOf]

theorem holderOf_isSome_iff (a : Nat) (s : State) :
    (holderOf a s).isSome = true ↔ ∃ i : EntryIx, s.table[i].state ≠ .empty ∧ s.table[i].address = a := by
  simp [holderOf, List.find?_isSome]

/-- What the lowest free buffer is (R97): no holder names it. -/
theorem lowestFree_not_held {p : Pool} {b : BufIx} (h : p.lowestFree = some b) : b ∉ p.held := by
  simpa [Pool.isFree] using find_passes h

theorem entryArg_eq {b : Byte} {i : EntryIx} (h : b.toNat = i.val) : entryArg b = some i := by
  have : b.toNat < 32 := by omega
  simp [entryArg, h]

theorem entryArg_none {b : Byte} (h : 31 < b.toNat) : entryArg b = none := by
  have : ¬ b.toNat < 32 := by omega
  simp [entryArg, this]

/-! ## The operations -/

/-- The two things a count that saturates can do. -/
theorem satInc_eq_min (max n : Nat) : satInc max n = min max (n + 1) := by
  unfold satInc
  split <;> omega

/-- The three things a posting can do (R174). -/
theorem post_cases (e : Event) (s : State) :
    (admits s.events.filter e.code = false ∧ post e s = s) ∨
    (admits s.events.filter e.code = true ∧ s.events.records.length < 32 ∧
      post e s = { s with events := { s.events with records := s.events.records ++ [e] } }) ∨
    (admits s.events.filter e.code = true ∧ 32 ≤ s.events.records.length ∧
      post e s = { s with events := { s.events with lost := satInc 255 s.events.lost } }) := by
  cases ha : admits s.events.filter e.code with
  | false => simp [post, ha]
  | true =>
    by_cases hl : s.events.records.length < 32
    · simp [post, ha, hl, Config.eventCapacity]
    · simp [post, ha, hl, Config.eventCapacity, Nat.not_lt.1 hl]

/-- The three things a buffer's return can do (R75, R88). -/
theorem bufferFreed_cases (s : State) :
    bufferFreed s = s ∨ bufferFreed s = arrival s ∨
      (s.sched.walk = .bufferWait ∧ bufferFreed s = arrival { s with sched := { s.sched with walk := .walking, run := {} } }) := by
  unfold bufferFreed
  split
  · exact .inr (.inr ⟨‹_›, rfl⟩)
  · split
    · split
      · exact .inr (.inl rfl)
      · exact .inl rfl
    · exact .inl rfl

/-- The two things the latch can do with a host error (R181). -/
theorem latch_raise_cases (h : HostError) (l : Latch) :
    (l.flag = true ∧ l.raise h = { l with count := satInc 255 l.count }) ∨
    (l.flag = false ∧ l.raise h = { l with flag := true, first := some h }) := by
  cases hf : l.flag <;> simp [Latch.raise, hf]

/-- What a release of the reply reservation does (R119). -/
theorem releaseReservation_cases (s : State) :
    (s.pool.reserved = none ∧ releaseReservation s = s) ∨
      releaseReservation s = bufferFreed { s with pool := { s.pool with reserved := none } } := by
  unfold releaseReservation
  split
  · exact .inl ⟨‹_›, rfl⟩
  · exact .inr rfl

/-- What a departure does to the entry it leaves (R104, R106). -/
theorem depart_table (i : EntryIx) (b : BufIx) (s : State) :
    (depart i b s).table = s.table.set i
      (if s.pool.buffers[b].transmitted then { s.table[i] with nextNum := s.table[i].nextNum + 1#3 } else s.table[i]) := by
  simp [depart]

theorem depart_outbound (i : EntryIx) (b : BufIx) (s : State) :
    (depart i b s).pool = { s.pool with outbound := s.pool.outbound.set i (s.pool.outbound[i].erase b) } := by
  simp [depart, withOutbound]

/-- What the end notice of line control does, by the line state (R156). -/
theorem endNotice_cases (s : State) :
    (s.line.state = .running ∧ endNotice s = arrival s) ∨
    (s.line.state = .draining ∧
      endNotice s = post { code := .lineStopped, detail := 1#16 } { s with line := { s.line with state := .stopped } }) ∨
    ((s.line.state = .stopped ∨ s.line.state = .faulted) ∧ endNotice s = s) := by
  cases h : s.line.state <;> simp [endNotice, h]

/-- What the end of a step does: nothing, the owed look dropped, or one look (R75, log 4). -/
theorem finish_cases (s : State) :
    (s.sched.lookDue = false ∧ finish s = s) ∨
    (s.sched.lookDue = true ∧ mayLook s = false ∧ finish s = { s with sched := { s.sched with lookDue := false } }) ∨
    (s.sched.lookDue = true ∧ mayLook s = true ∧
      finish s = look { s with sched := { s.sched with lookDue := false, urgentDeferred := none } }) := by
  cases h : s.sched.lookDue with
  | false => simp [finish, h]
  | true => cases hm : mayLook s <;> simp [finish, h, hm]

/-- What any step that the part takes is: nothing in reset, otherwise its effect and the look (R197). -/
theorem act_live {f : State → State} {s : State} (h : s.port.inReset = false) : act f s = finish (f s) := by simp [act, h]

theorem act_held {f : State → State} {s : State} (h : s.port.inReset = true) : act f s = s := by simp [act, h]

/-- The abandonment path with nothing in flight does nothing (R68). -/
theorem abandon_none {c : Cause} {high : Bool} {s : State} (h : s.engine.record = none) : abandon c high s = s := by
  simp [abandon, h]

/-- The fault act is made in RUNNING and DRAINING only (R158). -/
theorem lineFault_idle {d : Word} {high : Bool} {s : State} (h : s.line.state = .stopped ∨ s.line.state = .faulted) :
    lineFault d high s = s := by
  rcases h with h | h <;> simp [lineFault, h]

/-! ## Reads of the host bus -/

/-- A read of an address that is neither of a 16-bit register nor a port that moves gives the register's byte and changes nothing
(R185, R187). -/
theorem readRegister_plain {a : BitVec 6} (s : State)
    (h : a ∉ ([0x0C#6, 0x0D#6, 0x0F#6, 0x10#6, 0x14#6, 0x15#6, 0x26#6, 0x27#6, 0x3A#6, 0x3B#6, 0x3C#6, 0x3D#6] : List (BitVec 6))) :
    readRegister a s = (byteWord (registerValue a s), s) := by
  simp only [List.mem_cons, not_or, ← BitVec.toNat_inj] at h
  unfold readRegister
  split <;> simp_all

/-- In reset a read drives nothing and changes nothing (R184, R197). -/
theorem busRead_held {a : BitVec 6} {s : State} (h : s.port.inReset = true) : busRead a s = s := act_held h

/-- The detail of a RETIRING head's CANCELLED record is HOST only for a mark made before the REMOVE (R40). -/
theorem retireDetail_eq_one_iff (late : Bool) (b : Buffer) : retireDetail late b = 1 ↔ b.mark = .cancelPending ∧ late = false := by
  unfold retireDetail
  split <;> simp_all

/-! ## The pool after a reset -/

theorem allFree_held : Pool.allFree.held = [] := by decide

theorem allFree_freeCount : Pool.allFree.freeCount = 24 := by
  simp [Pool.freeCount, Pool.isFree, allFree_held]

/-! ## The expansion of a packed payload (R8, R57) -/

/-- The length computed from the count bytes is the length of the expansion. -/
theorem expandedLength_eq (bs : List Byte) : expandedLength bs = (expand bs).length := by
  induction bs using expand.induct <;> simp_all [expandedLength, expand]

end Sys2Proof.Machine
end

