-- ==== Sys2Proof/Laws/Frame.lean ====
section
/-! SUPPORT. What no operation below the host port touches: the port, the parameters, the clock and the queue. One lemma per
operation, so that a proof about those four fields unfolds none of them. -/

namespace Sys2Proof.Machine

/-- The port, the protocol parameters, the clock and the queue of commands are as they were. -/
def Kept (s t : State) : Prop := t.port = s.port ∧ t.params = s.params ∧ t.now = s.now ∧ t.pending = s.pending

theorem Kept.refl (s : State) : Kept s s := ⟨rfl, rfl, rfl, rfl⟩

theorem Kept.trans {s t u : State} (h : Kept s t) (g : Kept t u) : Kept s u :=
  ⟨g.1.trans h.1, g.2.1.trans h.2.1, g.2.2.1.trans h.2.2.1, g.2.2.2.trans h.2.2.2⟩

/-! ## Pool and table -/

theorem post_kept (e : Event) (s : State) : Kept s (post e s) := by simp [Kept]

theorem departWith_kept (i : EntryIx) (b : BufIx) (c : EventCode) (d : Nat) (s : State) : Kept s (departWith i b c d s) := by
  simp [Kept]

theorem flush_kept (i : EntryIx) (c : EventCode) (d : Buffer → Nat) (bs : List BufIx) (s : State) :
    Kept s (flush i c d bs s) := by
  unfold flush
  induction bs generalizing s with
  | nil => exact .refl s
  | cons b rest ih => exact (departWith_kept i b c _ s).trans (ih _)

theorem releaseReservation_kept (s : State) : Kept s (releaseReservation s) := by simp [Kept]

theorem retire_kept (i : EntryIx) (s : State) : Kept s (retire i s) := by simp [Kept]

theorem retireFailed_kept (i : EntryIx) (s : State) : Kept s (retireFailed i s) :=
  (flush_kept i _ _ _ s).trans (retire_kept i _)

theorem enterLost_kept (i : EntryIx) (d : Nat) (s : State) : Kept s (enterLost i d s) := by
  unfold enterLost
  dsimp only
  split
  · simp [Kept]
  · exact Kept.trans (by simp [Kept]) (flush_kept i _ _ _ _)

theorem goodOutcome_kept (i : EntryIx) (s : State) : Kept s (goodOutcome i s) := by
  unfold goodOutcome
  split <;> simp [Kept]

theorem failedOutcome_kept (i : EntryIx) (s : State) : Kept s (failedOutcome i s) := by
  unfold failedOutcome
  dsimp only
  split
  · exact .refl s
  · split
    · simp [Kept]
    · exact Kept.trans (by simp [Kept]) (enterLost_kept i _ _)
  · split
    · simp [Kept]
    · exact Kept.trans (by simp [Kept]) (enterLost_kept i _ _)
  · split
    · simp [Kept]
    · exact Kept.trans (by simp [Kept]) (enterLost_kept i _ _)
  · simp [Kept]
  · simp [Kept]
  · exact retireFailed_kept i s

theorem abandonedOutcome_kept (i : EntryIx) (s : State) : Kept s (abandonedOutcome i s) := by
  unfold abandonedOutcome
  split
  · exact (flush_kept i _ _ _ s).trans (retire_kept i _)
  · simp [Kept]

/-! ## Replies and sweep -/

theorem actOnMore_kept (i : EntryIx) (tag : BitVec 4) (s : State) : Kept s (actOnMore i tag s) := by
  unfold actOnMore requestUrgent
  (repeat' split) <;> simp [Kept]

theorem takeReport_kept (i : EntryIx) (packed : Bool) (tag : BitVec 4) (s : State) : Kept s (takeReport i packed tag s) := by
  unfold takeReport
  split
  · exact releaseReservation_kept s
  · split
    · exact Kept.trans (by simp [Kept, takeDuplicate]) (actOnMore_kept i tag _)
    · refine Kept.trans ?_ (actOnMore_kept i tag _)
      unfold takeNew
      split <;> simp [Kept]

theorem deliverEnd_kept (i : EntryIx) (b : BufIx) (k : ReplyKind) (s : State) : Kept s (deliverEnd i b k s) := by
  unfold deliverEnd
  split
  · simp [Kept, acceptEnd]
  · unfold refuseEnd
    (repeat' split) <;> simp [Kept]
  · unfold busyEnd
    dsimp only
    (repeat' split) <;> simp [Kept]
  · exact .refl s

theorem sweepDecided_kept (s : State) : Kept s (sweepDecided s) := by
  unfold sweepDecided sweepComplete sweepStopped
  dsimp only
  (repeat' split) <;> simp [Kept]

theorem sweepUndecided_kept (s : State) : Kept s (sweepUndecided s) := by
  unfold sweepUndecided sweepStopped
  dsimp only
  split <;> simp [Kept]

theorem sweepFailure_kept (a : Nat) (r : Reason) (s : State) : Kept s (sweepFailure a r s) := by
  unfold sweepFailure
  split
  · exact sweepUndecided_kept s
  · exact Kept.trans (by simp [Kept]) (sweepDecided_kept _)
  · exact Kept.trans (by simp [Kept]) (sweepDecided_kept _)

theorem probeIdent_kept (a : Nat) (d : Ident) (s : State) : Kept s (probeIdent a d s) := by
  unfold probeIdent
  split
  · rename_i i _
    refine Kept.trans ?_ (sweepDecided_kept _)
    unfold applyIdent
    have h : Kept s (modEntry i (fun e => { e with ident := some d }) s) := by simp [Kept]
    exact (h.trans (goodOutcome_kept i _)).trans (by simp [Kept])
  · unfold sweepIdent
    dsimp only
    refine Kept.trans ?_ (sweepDecided_kept _)
    (repeat' split) <;> simp [Kept]

theorem sweepChoice_kept (s : State) : Kept s (sweepChoice s).2 := by
  unfold sweepChoice sweepComplete
  dsimp only
  split <;> simp [Kept]

/-! ## The scheduler -/

theorem startExchange_kept (x : Exchange) (s : State) : Kept s (startExchange x s) := by
  cases x <;> simp [startExchange, Kept]

theorem tryPoll_kept (i : EntryIx) (s : State) : Kept s (tryPoll i s).2 := by
  unfold tryPoll
  split
  · exact Kept.trans (by simp [Kept]) (startExchange_kept _ _)
  · unfold deferPoll
    split <;> simp [Kept]

theorem backoffStep_kept (i : EntryIx) (s : State) : Kept s (backoffStep i s) := by
  unfold backoffStep
  split <;> simp [Kept]

theorem dropIneligible_kept (l : List EntryIx) (s : State) : Kept s (dropIneligible l s) := by
  induction l generalizing s with
  | nil => simp [dropIneligible, Kept]
  | cons i rest ih =>
    unfold dropIneligible
    split
    · split
      · exact ih s
      · exact Kept.trans (by simp [Kept]) (ih _)
    · simp [Kept]

theorem urgentClaim_kept (s : State) : Kept s (urgentClaim s).2 := by
  unfold urgentClaim
  dsimp only
  have h := dropIneligible_kept s.sched.urgent s
  split
  · exact h
  · rename_i i _ _
    split
    · exact h.trans (Kept.trans (by simp [Kept]) (startExchange_kept _ _))
    · have g := h.trans ((backoffStep_kept i _).trans (tryPoll_kept i _))
      split
      · rename_i e
        rw [e] at g
        exact g.trans (by simp [Kept])
      · rename_i e
        rw [e] at g
        exact g.trans (by simp [Kept])
    · exact h

theorem sweepClaim_kept (s : State) : Kept s (sweepClaim s).2 := by
  unfold sweepClaim
  have h := sweepChoice_kept s
  split
  · split
    · rename_i e
      rw [e] at h
      exact h.trans (Kept.trans (by simp [Kept]) (startExchange_kept _ _))
    · rename_i e
      rw [e] at h
      exact h
  · exact .refl s

theorem carryOut_kept (i : EntryIx) (s : State) : Kept s (carryOut i s).2 := by
  unfold carryOut
  split
  · exact .refl s
  · exact .refl s
  · exact startExchange_kept _ s
  · have g := (backoffStep_kept i s).trans (tryPoll_kept i _)
    split
    · rename_i e
      rw [e] at g
      exact g
    · rename_i e
      rw [e] at g
      exact g

/-- The part of a visit that carries its choice out. -/
theorem slot_kept (s : State) : Kept s (match s.sched.ring[s.sched.pointer] with
    | none => (Fruit.barren, s)
    | some i => carryOut i s).2 := by
  split
  · exact .refl s
  · exact carryOut_kept _ s

theorem visit_kept (s : State) : Kept s (visit s).2 := by
  unfold visit
  by_cases h : s.sched.pointer = 0
  · simp only [h, if_true]
    exact Kept.trans (t := loadPace s) (by simp [Kept]) (slot_kept (loadPace s))
  · simp only [h, if_false]
    exact slot_kept s

theorem advanceSlot_kept (s : State) : Kept s (advanceSlot s).2 := by
  unfold advanceSlot
  split <;> simp [Kept]

theorem endRun_kept (s : State) : Kept s (endRun s) := by
  unfold endRun
  (repeat' split) <;> simp [Kept]

theorem returnToSweep_kept (s : State) : Kept s (returnToSweep s).2 := by
  unfold returnToSweep
  have h := sweepClaim_kept s
  split <;> rename_i e <;> rw [e] at h <;> exact h

theorem walkMove_kept (s : State) : Kept s (walkMove s).2 := by
  unfold walkMove
  split
  · exact Kept.trans (by simp [Kept]) (returnToSweep_kept _)
  · split
    · simp [Kept]
    · have h := (visit_kept s).trans (advanceSlot_kept (visit s).2)
      dsimp only
      split
      · exact h
      · split
        · exact (h.trans (endRun_kept _)).trans (returnToSweep_kept _)
        · exact h.trans (endRun_kept _)

theorem walk_kept (n : Nat) (s : State) : Kept s (walk n s) := by
  induction n generalizing s with
  | zero => exact .refl s
  | succ n ih =>
    unfold walk
    split
    · have h := walkMove_kept s
      split <;> rename_i e <;> rw [e] at h
      · exact h
      · exact h.trans (ih _)
    · exact .refl s

/-- A look leaves the port, the parameters, the clock and the queue alone. -/
theorem look_kept (s : State) : Kept s (look s) := by
  unfold look
  split
  · exact startExchange_kept _ s
  · have h := urgentClaim_kept s
    split <;> rename_i e <;> rw [e] at h
    · exact h
    · have g := sweepClaim_kept (urgentClaim s).2
      rw [e] at g
      split <;> rename_i e2 <;> rw [e2] at g
      · exact h.trans g
      · exact (h.trans g).trans (walk_kept _ _)

/-- So does the end of a step. -/
theorem finish_kept (s : State) : Kept s (finish s) := by
  rcases finish_cases s with ⟨_, h⟩ | ⟨_, _, h⟩ | ⟨_, _, h⟩ <;> rw [h]
  · exact .refl s
  · simp [Kept]
  · exact Kept.trans (by simp [Kept]) (look_kept _)

/-! ## The engine -/

theorem endNotice_kept (s : State) : Kept s (endNotice s) := by
  rcases endNotice_cases s with ⟨_, h⟩ | ⟨_, h⟩ | ⟨_, h⟩ <;> rw [h] <;> simp [Kept]

theorem endExchange_kept (s : State) : Kept s (endExchange s) := Kept.trans (by simp [Kept]) (endNotice_kept _)

theorem abandonOutcome_kept (x : Exchange) (s : State) : Kept s (abandonOutcome x s) := by
  cases x with
  | poll i b => exact (releaseReservation_kept s).trans (abandonedOutcome_kept i _)
  | deliver i b =>
    refine Kept.trans ?_ (abandonedOutcome_kept i _)
    unfold abandonMessage
    split <;> simp [Kept]
  | probe a => exact sweepUndecided_kept s
  | broadcast b => simp [abandonOutcome, Kept]

/-- An abandonment leaves the port, the parameters, the clock and the queue alone. -/
theorem abandon_kept (c : Cause) (high : Bool) (s : State) : Kept s (abandon c high s) := by
  unfold abandon
  split
  · exact .refl s
  · rename_i r _
    have h : Kept s (framerStop high s) := by simp [Kept]
    have g := (h.trans (post_kept (abortedEvent r.exch c (framerStop high s)) _)).trans (abandonOutcome_kept r.exch _)
    exact g

theorem withdraw_kept (c : Cause) (s : State) : Kept s (withdraw c s) := (abandon_kept c true s).trans (endNotice_kept _)

theorem withdrawalNotice_kept (c : Cause) (s : State) : Kept s (withdrawalNotice c s) := by
  unfold withdrawalNotice
  split
  · exact withdraw_kept c s
  · exact withdraw_kept c s
  · exact .refl s

theorem lineFault_kept (d : Word) (high : Bool) (s : State) : Kept s (lineFault d high s) := by
  unfold lineFault
  dsimp only
  split
  · exact (abandon_kept .fault high s).trans (by simp [Kept])
  · exact .refl s

theorem failAttempt_kept (r : Reason) (s : State) : Kept s (failAttempt r s) := by
  unfold failAttempt
  (repeat' split) <;> simp [Kept]

theorem retry_kept (s : State) : Kept s (retry s) := by simp [retry, enterSettle, Kept]

theorem failedEnd_kept (x : Exchange) (s : State) : Kept s (failedEnd x s) := by
  cases x with
  | poll i b => exact ((releaseReservation_kept s).trans (failedOutcome_kept i _)).trans (endExchange_kept _)
  | deliver i b =>
    refine Kept.trans (Kept.trans ?_ (failedOutcome_kept i _)) (endExchange_kept _)
    split <;> simp [Kept]
  | probe a => exact .refl s
  | broadcast b => exact .refl s

theorem decideRetry_kept (i : EntryIx) (r : InFlight) (s : State) : Kept s (decideRetry i r s) := by
  unfold decideRetry
  split
  · split
    · exact withdraw_kept _ s
    · exact retry_kept s
  · exact failedEnd_kept _ s

/-- The decision after a failed attempt leaves the port, the parameters, the clock and the queue alone. -/
theorem decision_kept (s : State) : Kept s (decision s) := by
  unfold decision
  refine Kept.trans (t := stopTimers s) (by simp [Kept]) ?_
  unfold decide60
  split
  · exact .refl _
  · split
    · exact (sweepFailure_kept _ _ _).trans (endExchange_kept _)
    · split
      · exact withdraw_kept _ _
      · exact decideRetry_kept _ _ _
    · exact decideRetry_kept _ _ _
    · simp [enterSettle, Kept]

theorem goodEnd_kept (r : InFlight) (k : ReplyKind) (s : State) : Kept s (goodEnd r k s) := by
  unfold goodEnd
  dsimp only
  split
  · split
    · exact ((takeReport_kept _ _ _ s).trans (goodOutcome_kept _ _)).trans (endExchange_kept _)
    · exact ((takeReport_kept _ _ _ s).trans (goodOutcome_kept _ _)).trans (endExchange_kept _)
    · exact ((releaseReservation_kept s).trans (goodOutcome_kept _ _)).trans (endExchange_kept _)
  · exact ((deliverEnd_kept _ _ _ s).trans (goodOutcome_kept _ _)).trans (endExchange_kept _)
  · exact (probeIdent_kept _ _ s).trans (endExchange_kept _)
  · exact .refl s

theorem kept_ite {p : Prop} [Decidable p] {s t u : State} (h : Kept s t) (g : Kept s u) : Kept s (if p then t else u) := by
  split <;> assumption

theorem failDrain_kept (r : Reason) (s : State) : Kept s (enterDrain (failAttempt r s)) :=
  (failAttempt_kept r s).trans ⟨rfl, rfl, rfl, rfl⟩

theorem failDiscard_kept (r : Reason) (s : State) : Kept s (enterDrain (discardMode (failAttempt r s))) :=
  (failAttempt_kept r s).trans ⟨rfl, rfl, rfl, rfl⟩

theorem failDecision_kept (r : Reason) (s : State) : Kept s (decision (failAttempt r s)) :=
  (failAttempt_kept r s).trans (decision_kept _)

/-- A framer report handled leaves the port, the parameters, the clock and the queue alone. -/
theorem handleReport_kept (p : Report) (s : State) : Kept s (handleReport p s) := by
  unfold handleReport
  split
  · exact .refl s
  · split
    · exact kept_ite (by simp [Kept]) (failDiscard_kept _ s)
    · split
      · exact failDiscard_kept _ s
      · exact .refl s
    · exact failDrain_kept _ s
    · unfold storePayload
      split <;> simp [Kept]
    · exact failDrain_kept _ s
    · exact failDecision_kept _ s
    · split
      · exact failDecision_kept _ s
      · split
        · exact failDecision_kept _ s
        · split
          · exact goodEnd_kept _ _ s
          · exact failDecision_kept _ s
    · exact decision_kept s
    · exact .refl s

theorem engineReport_kept (p : Report) (s : State) : Kept s (engineReport p s) := by
  unfold engineReport
  split
  · simp [Kept]
  · exact handleReport_kept p s

end Sys2Proof.Machine
end

