-- ==== Sys2Proof/Tests/Slice0.lean ====
section
/-! SUPPORT. Tests from the manual's own examples and rules, the smoke tests of WellFormed, and one witness for every clause of every
obligation that has hypotheses. -/

namespace Sys2Proof.Tests

open Sys2Proof Sys2Proof.Machine

/-! ## Small states -/

/-- The part after pin reset, in 8-bit mode. -/
def fresh : State := State.powerOn false

/-- The arguments CARG0 to CARG2 set. -/
def args (a b c : Byte) (s : State) : State := { s with port := { s.port with carg0 := a, carg1 := b, carg2 := c } }

/-- The window's selectors set. -/
def window (sel ix fld : Byte) (s : State) : State :=
  { s with port := { s.port with winsel := sel, winidx := ix, winfld := fld } }

/-- 16-bit mode. -/
def wide (s : State) : State := { s with port := { s.port with wide := true } }

/-- An entry in a state, at address 10 more than its index. -/
def entry (i : EntryIx) (st : EntryState) (s : State) : State :=
  withEntry i { addedEntry (10 + i.val) false false with state := st } s

/-- Every entry occupied, at the addresses 1 to 32. -/
def full : State := { fresh with table := Vector.ofFn fun i => addedEntry (i.val + 1) false false }

/-- A buffer's payload, id and mark. -/
def buffer (b : BufIx) (n : Nat) (id : Byte) (m : Mark) (s : State) : State :=
  modBuffer b (fun x => { x with payload := List.replicate n 0x41#8, msgId := id, mark := m }) s

/-- A buffer that has been transmitted. -/
def sent (b : BufIx) (s : State) : State := modBuffer b (fun x => { x with transmitted := true }) s

/-- The line in a state, with an exchange in flight. -/
def exchanging (x : Exchange) (e : EngineState) (s : State) : State :=
  { s with
    line := { s.line with state := .running }
    engine := { s.engine with state := e, record := some { exch := x, tag := some 8#4, lastFailure := some .noReply } } }

/-- The line in a state. -/
def line (l : LineState) (s : State) : State := { s with line := { s.line with state := l } }

/-- The receive mode, and a character in assembly since time 0. -/
def assembling (m : RxMode) (s : State) : State := { s with framer := { s.framer with mode := m, rx := .assembling 0 false } }

/-- The mode and a receiver held low since time 0. -/
def held (m : RxMode) (s : State) : State := { s with framer := { s.framer with mode := m, rx := .low 0 } }

/-- A pending quiet request. -/
def asked (s : State) : State := { s with line := { s.line with quiet := some ⟨100, 200⟩ } }

/-- A transmission of one character. -/
def sending (k : Nat) (check bad : Bool) (s : State) : State :=
  let x : Transmission := { chars := [0xB4#8], begun := 0, compared := k, echoCheck := check, contended := bad }
  { s with framer := { s.framer with mode := .echo, driverEnable := true, tx := some x } }

/-- The frame header as collected. -/
def header (a k l : Byte) (s : State) : State :=
  { s with framer := { s.framer with mode := .collect, hdrAddress := a, hdrKindTag := k, hdrLength := l } }

/-- The state a command leaves. -/
def after (c : Instr) (s : State) : State :=
  match exec c s with
  | .next t => t
  | _ => s

/-! ## WellFormed and Decode -/

theorem test_listed_code_is_no_unknown_command : (Instr.unknownCommand 0x10#8).wellFormed = false := by decide
theorem test_unlisted_code_is_unknown_command : (Instr.unknownCommand 0x16#8).wellFormed = true := by decide
theorem test_row_of_its_own_is_no_register_write : (Instr.registerWrite 0x25#6 3#16).wellFormed = false := by decide
theorem test_other_register_write : (Instr.registerWrite 0x2B#6 3#16).wellFormed = true := by decide
theorem test_no_word_spells_a_command : decodeTableWord 16 0x1234 = none ∧ fresh.withFetchWord 16 0x1234 = fresh := by decide

/-! ## The manual's worked values -/

/-- R7: "123456789" gives 0x29B1. -/
theorem test_crc_check_value :
    crcOf [0x31#8, 0x32#8, 0x33#8, 0x34#8, 0x35#8, 0x36#8, 0x37#8, 0x38#8, 0x39#8] = 0x29B1#16 := by decide +kernel

/-- The worked frame of section 1.2: a POLL of address 5 with nothing taken. -/
theorem test_worked_poll_frame : frameChars 5 1 0#4 [] = [0xB4#8, 0x05#8, 0x10#8, 0x00#8, 0x24#8, 0x1F#8] := by decide +kernel

/-- R6: a POLL whose entry last took report 5 carries 0x1D; a DELIVER with the fresh mark and number 0 carries 0x28. -/
theorem test_worked_tags : kindTag 1 (pollTag (some 5#3)) = 0x1D#8 ∧ kindTag 2 (deliverTag true 0#3) = 0x28#8 := by decide

/-- R8: the packed example expands to ten, one and three bytes. -/
theorem test_worked_expansion :
    expand [0x20#8, 0x09#8, 0x41#8, 0x00#8, 0x30#8, 0x02#8] =
      List.replicate 10 0x20#8 ++ [0x41#8] ++ List.replicate 3 0x30#8 := by decide

/-- R12: over one POLL at the power-on values TXD is busy for 61 bit times and DE drops after 62. -/
theorem test_worked_de_times :
    let s := after (.frameSent true) (exchanging (.poll 0 0) .sending { sending 6 true false fresh with
      framer := { (sending 6 true false fresh).framer with
        tx := some { chars := frameChars 5 1 0#4 [], begun := 0, compared := 6, echoCheck := true } } })
    s.now = 61 * Config.bitTime 1 ∧ s.framer.guardEnd = some (62 * Config.bitTime 1) := by decide

/-- R3: a character time at LRATE 4 is 86.8 microseconds, at 73.728 clock units to the microsecond (log 1). -/
theorem test_character_time : Config.charTime 4 * 1000 = 6400 * 1000 ∧ 6400 * 1000 / 73728 = 86 := by decide

/-! ## Commands -/

theorem test_add_takes_lowest_entry : (after .add (args 5#8 3#8 0#8 (entry 0 .new fresh))).table[(1 : EntryIx)] =
    addedEntry 5 true true := by decide
theorem test_add_refuses_127 : (after .add (args 127#8 0#8 0#8 fresh)).port.cres = .badAddress := by decide
theorem test_remove_retires_at_once : (after .remove (args 3#8 0#8 0#8 (entry 3 .online fresh))).events.records =
    [{ code := .stationRetired, entry := some 3, address := 13 }] := by decide
theorem test_stage_open_keeps_reserve :
    (after .stageOpen { fresh with params := { fresh.params with reserve := 24 } }).port.cres = .noBuffer := by decide
theorem test_stage_commit_counts : (after .stageCommit (args 3#8 9#8 0#8 (entry 3 .online
    { fresh with pool := { fresh.pool with staged := some 0 } }))).port.cval = 1#8 := by decide
theorem test_stgdata_overfills : (after (.stgdataWrite 0x4142#16) (buffer 0 48 0#8 .queued
    { fresh with pool := { fresh.pool with staged := some 0 } })).port.latch.first = some .overfill := by decide
theorem test_rxdata_reads_low_byte_first : (after .rxdataRead (wide (buffer 0 1 0#8 .queued
    { fresh with pool := { fresh.pool with readPort := some 0 } }))).port.dataLines = some 0x0041#16 := by decide
/-- R185: an 8-bit register read on the 16-bit bus drives its byte with 0x00 above; R184: in reset a read drives nothing. -/
theorem test_register_reads_drive_the_bus : (busRead 0x1D#6 (wide fresh)).port.dataLines = some 0x0018#16 ∧
    busRead 0x1D#6 (after .resetAsserted fresh) = after .resetAsserted fresh := by decide
/-- R40: a mark made by a CANCEL after the REMOVE does not make the outcome CANCELLED(HOST). -/
theorem test_cancel_after_remove_is_removed :
    (let b := { fresh.pool.buffers[(0 : BufIx)] with mark := Mark.cancelPending }
     retireDetail true b = 2 ∧ retireDetail false b = 1) := by decide
theorem test_evpop_reports_losses : (after .evpopRead { fresh with
    events := { records := [{ code := .resetDone }], lost := 3 } }).events.records =
      [{ code := .eventsLost, detail := 3#16 }] := by decide
theorem test_line_start_polls_a_new_station : (after .lineStart { entry 3 .new fresh with
    sched := { fresh.sched with ring := fresh.sched.ring.set 0 (some 3) } }).engine.record = some { exch := .poll 3 0 } := by decide
theorem test_line_config_locked : (after (.lineConfigWrite .lguard 99#16) (line .running fresh)).port.latch.first =
    some .configLocked := by decide
theorem test_ring_write_refuses_32 : (after (.windataWrite 32#16) (window 1#8 0#8 0#8 fresh)).port.latch.first =
    some .badValue := by decide
theorem test_device_reset_status : statusByte (after .deviceReset (line .running fresh)) = 0x10#8 := by decide
theorem test_late_lead_is_no_reply : (engineReport (.leadTaken 11) { exchanging (.poll 3 0) .await (entry 3 .new fresh) with
    engine := { state := .await, record := some { exch := .poll 3 0 }, windowEnd := some 10 } }).engine.state = .drain := by decide
theorem test_third_contention_faults : (after (.echoComparison false 0#8 true false) { sending 0 true false
    (exchanging (.probe 9) .sending fresh) with
      line := { fresh.line with state := .running, contCount := 2 } }).line.state = .faulted := by decide

/-! ## Witnesses: states and operands that meet the hypotheses of each obligation, clause by clause -/

theorem witness_StepRunsFrontCommand : { fresh with pending := [Instr.add] }.pending = .add :: [] ∧ fresh.pending = [] := by decide

theorem witness_live : fresh.port.inReset = false := by decide

theorem witness_HeldInReset : (after .resetAsserted fresh).port.inReset = true ∧ Instr.add ≠ .resetAsserted ∧
    ∀ b, Instr.add ≠ .pinReset b := by decide

theorem witness_LineResetValues :
    (entry 0 .retiring fresh).table[(0 : EntryIx)].state = .retiring ∧ fresh.table[(0 : EntryIx)].state = .empty ∧
    (entry 0 .parked fresh).table[(0 : EntryIx)].state ≠ .empty ∧ (entry 31 .lost fresh).table[(31 : EntryIx)].state ≠ .retiring := by
  decide

theorem witness_RefusedCommandChangesNothing : fresh.LookLaw ∧ (after .add fresh).port.cres.refuses = true := by decide

theorem witness_UnknownCommandRule : (Instr.unknownCommand 0x00#8).wellFormed = true := by decide

theorem witness_AddRule :
    ((args 0#8 0#8 0#8 fresh).port.carg0.toNat = 0 ∧ 127 ≤ (args 127#8 0#8 0#8 fresh).port.carg0.toNat) ∧
    (1 ≤ (args 1#8 4#8 0#8 fresh).port.carg0.toNat ∧ 3 < (args 1#8 4#8 0#8 fresh).port.carg1.toNat) ∧
    (let s := args 126#8 3#8 0#8 (withEntry 4 (addedEntry 126 false false) fresh)
     s.port.carg0.toNat ≤ 126 ∧ s.port.carg1.toNat ≤ 3 ∧ s.table[(4 : EntryIx)].state ≠ .empty ∧ s.table[(4 : EntryIx)].address = 126) ∧
    (∀ j : EntryIx, full.table[j].state ≠ .empty ∧ full.table[j].address ≠ 126) ∧
    (entry 0 .new fresh).table[(1 : EntryIx)].state = .empty ∧
      ∀ j : EntryIx, j < 1 → (entry 0 .new fresh).table[j].state ≠ .empty := by decide

theorem witness_RemoveAtOnce :
    31 < (args 32#8 0#8 0#8 fresh).port.carg0.toNat ∧ (args 31#8 0#8 0#8 fresh).port.carg0.toNat = (31 : EntryIx).val ∧
    fresh.table[(31 : EntryIx)].state = .empty ∧ (entry 31 .retiring fresh).table[(31 : EntryIx)].state = .retiring ∧
    (entry 31 .parked fresh).table[(31 : EntryIx)].state = .parked ∧ (entry 31 .parked fresh).table[(31 : EntryIx)].inFlight = false := by
  decide

/-- A DELIVER in flight to entry 3 with one message queued behind it, the attempt in a given engine state. -/
def delivering (e : EngineState) (m : Mark) (st : EntryState) : State :=
  exchanging (.deliver 3 0) e (args 3#8 7#8 0#8 (buffer 0 4 7#8 m (buffer 1 4 8#8 .queued (withOutbound 3 [0, 1]
    (modEntry 3 (fun x => { x with inFlight := true }) (entry 3 st fresh))))))

theorem witness_RemoveInFlight :
    let s := delivering .await .inFlight .online
    s.port.carg0.toNat = (3 : EntryIx).val ∧ s.table[(3 : EntryIx)].state = .online ∧ s.table[(3 : EntryIx)].inFlight = true ∧
    s.engine.state ≠ .settleWait ∧ s.engine.state ≠ .settle ∧ s.pool.outbound[(3 : EntryIx)].length = 2 := by decide

theorem witness_ParkAndResumeRule :
    31 < (args 32#8 0#8 0#8 fresh).port.carg0.toNat ∧ (args 0#8 0#8 0#8 fresh).port.carg0.toNat = (0 : EntryIx).val ∧
    fresh.table[(0 : EntryIx)].state = .empty ∧ (entry 0 .parked fresh).table[(0 : EntryIx)].state = .parked ∧
    (entry 0 .retiring fresh).table[(0 : EntryIx)].state = .retiring ∧ (entry 0 .lost fresh).table[(0 : EntryIx)].state = .lost := by
  decide

/-- The urgent list with eight entries on it. -/
def urgentFull : State := { full with sched := { full.sched with urgent := [0, 1, 2, 3, 4, 5, 6, 7] } }

theorem witness_UrgentRule :
    31 < (args 32#8 0#8 0#8 fresh).port.carg0.toNat ∧ (args 9#8 0#8 0#8 full).port.carg0.toNat = (9 : EntryIx).val ∧
    full.table[(9 : EntryIx)].state = .new ∧ (7 : EntryIx) ∈ urgentFull.sched.urgent ∧ (9 : EntryIx) ∉ urgentFull.sched.urgent ∧
    8 ≤ urgentFull.sched.urgent.length ∧ (9 : EntryIx) ∉ full.sched.urgent ∧ full.sched.urgent.length < 8 ∧
    (entry 9 .parked full).table[(9 : EntryIx)].state = .parked ∧ (entry 9 .empty full).table[(9 : EntryIx)].state = .empty := by decide

theorem witness_ClearCountersRule :
    32 < (args 33#8 0#8 0#8 fresh).port.carg0.toNat ∧ (args 32#8 0#8 0#8 fresh).port.carg0.toNat = 32 ∧
    (args 31#8 0#8 0#8 full).port.carg0.toNat = (31 : EntryIx).val ∧ full.table[(31 : EntryIx)].state = .new ∧
    (entry 31 .retiring full).table[(31 : EntryIx)].state = .retiring ∧ (entry 31 .empty full).table[(31 : EntryIx)].state = .empty := by
  decide

/-- Buffer 0 staged with a message of a given length. -/
def staged (n : Nat) : State := buffer 0 n 0#8 .queued { fresh with pool := { fresh.pool with staged := some 0 } }

theorem witness_StagingRule :
    (staged 0).pool.staged ≠ none ∧ fresh.pool.staged = none ∧
    { fresh with params := { fresh.params with reserve := 24 } }.pool.freeCount ≤ 24 ∧ fresh.params.reserve < fresh.pool.freeCount ∧
    (0 : BufIx) ∉ fresh.pool.held ∧ (∀ c : BufIx, c < 0 → c ∈ fresh.pool.held) ∧
    (let p := { fresh.pool with inbound := [0] }
     (1 : BufIx) ∉ p.held ∧ ∀ c : BufIx, c < 1 → c ∈ p.held) := by decide

theorem witness_StgdataWriteRule :
    fresh.pool.staged = none ∧ (staged 47).pool.staged = some 0 ∧ (staged 47).port.wide = false ∧
    (staged 47).pool.buffers[(0 : BufIx)].payload.length = 47 ∧ 48 ≤ (staged 48).pool.buffers[(0 : BufIx)].payload.length ∧
    (wide (staged 46)).port.wide = true ∧ (wide (staged 46)).pool.buffers[(0 : BufIx)].payload.length < 47 := by decide

/-- The broadcast list with a given list of messages. -/
def broadcasting (bs : List BufIx) (s : State) : State := { s with pool := { s.pool with broadcast := bs } }

theorem witness_StageCommitRule :
    fresh.pool.staged = none ∧ (staged 3).pool.staged = some 0 ∧ 32 < (args 33#8 0#8 0#8 (staged 3)).port.carg0.toNat ∧
    (args 32#8 0#8 0#8 (staged 3)).port.carg0.toNat = 32 ∧ 4 ≤ (broadcasting [1, 2, 3, 4] (staged 3)).pool.broadcast.length ∧
    (broadcasting [1, 2, 3] (staged 3)).pool.broadcast.length < 4 ∧
    (entry 3 .lost (staged 3)).table[(3 : EntryIx)].holdOnLoss = false ∧ (entry 3 .lost (staged 3)).table[(3 : EntryIx)].state = .lost ∧
    (staged 3).table[(3 : EntryIx)].state = .empty ∧ (entry 3 .retiring (staged 3)).table[(3 : EntryIx)].state = .retiring ∧
    (staged 3).params.maxq ≤ (withOutbound 3 [1, 2, 3, 4] (staged 3)).pool.outbound[(3 : EntryIx)].length ∧
    (withOutbound 3 [1, 2, 3] (entry 3 .parked (staged 3))).pool.outbound[(3 : EntryIx)].length < (staged 3).params.maxq := by decide

theorem witness_CancelRule :
    32 < (args 33#8 0#8 0#8 fresh).port.carg0.toNat ∧ (args 3#8 0#8 0#8 fresh).port.carg0.toNat = (3 : EntryIx).val ∧
    fresh.table[(3 : EntryIx)].state = .empty ∧
    (let s := args 3#8 9#8 0#8 (delivering .await .inFlight .online)
     ∀ b ∈ s.pool.outbound[(3 : EntryIx)], s.pool.buffers[b].msgId ≠ s.port.carg1) ∧
    (let s := args 3#8 8#8 0#8 (delivering .await .inFlight .online)
     s.pool.outbound[(3 : EntryIx)] = [0] ++ 1 :: [] ∧ (∀ c ∈ ([0] : List BufIx), s.pool.buffers[c].msgId ≠ s.port.carg1) ∧
     s.pool.buffers[(1 : BufIx)].msgId = s.port.carg1 ∧ s.pool.buffers[(1 : BufIx)].mark = .queued) ∧
    (let s := delivering .await .inFlight .online
     s.pool.outbound[(3 : EntryIx)] = [] ++ 0 :: [1] ∧ s.pool.buffers[(0 : BufIx)].msgId = s.port.carg1 ∧
     s.pool.buffers[(0 : BufIx)].mark = .inFlight ∧ s.engine.state ≠ .settleWait ∧ s.engine.state ≠ .settle) ∧
    (delivering .await .cancelPending .online).pool.buffers[(0 : BufIx)].mark = .cancelPending ∧
    (args 32#8 7#8 0#8 fresh).port.carg0.toNat = 32 ∧
    (let s := args 32#8 7#8 0#8 (broadcasting [1, 0] (buffer 0 1 7#8 .queued fresh))
     s.pool.broadcast = [1] ++ 0 :: [] ∧ s.pool.buffers[(1 : BufIx)].msgId ≠ s.port.carg1 ∧
     s.pool.buffers[(0 : BufIx)].msgId = s.port.carg1 ∧ s.pool.buffers[(0 : BufIx)].mark = .queued) ∧
    (let s := args 32#8 7#8 0#8 (broadcasting [0] (buffer 0 1 7#8 .inFlight fresh))
     s.pool.broadcast = [] ++ 0 :: [] ∧ s.pool.buffers[(0 : BufIx)].msgId = s.port.carg1 ∧
     s.pool.buffers[(0 : BufIx)].mark = .inFlight) := by decide

/-- A POLL of entry 3 in flight into buffer 0. -/
def polling (e : EngineState) (st : EntryState) : State :=
  let s := exchanging (.poll 3 0) e (args 3#8 0#8 0#8 (modEntry 3 (fun x => { x with inFlight := true }) (entry 3 st fresh)))
  { s with pool := { s.pool with reserved := some 0 } }

theorem witness_WithdrawnInSettle :
    (let s := delivering .settle .inFlight .online
     s.port.carg0.toNat = (3 : EntryIx).val ∧ s.table[(3 : EntryIx)].state = .online ∧ s.engine.state = .settle ∧
     s.pool.outbound[(3 : EntryIx)] = [] ++ 0 :: [1] ∧ s.pool.buffers[(0 : BufIx)].msgId = s.port.carg1 ∧
     s.pool.buffers[(0 : BufIx)].mark = .inFlight ∧ s.table[(3 : EntryIx)].inFlight = true ∧
     ∀ c ∈ ([1] : List BufIx), s.pool.buffers[c].mark = .queued ∧ s.pool.buffers[c].transmitted = false) ∧
    (withOutbound 3 [] (delivering .settleWait .inFlight .new)).pool.outbound[(3 : EntryIx)] = [] := by decide

/-- A REMOVE between the attempts of a POLL whose target has messages QUEUED, one of them transmitted before. -/
theorem witness_WithdrawnInSettle_poll :
    let s := sent 1 (withOutbound 3 [1, 2] (polling .settle .online))
    s.port.carg0.toNat = (3 : EntryIx).val ∧ s.table[(3 : EntryIx)].state = .online ∧ s.table[(3 : EntryIx)].inFlight = true ∧
    s.engine.state = .settle ∧ (s.pool.outbound[(3 : EntryIx)].filter fun b : BufIx => s.pool.buffers[b].mark == .queued) = [1, 2] ∧
    (after .remove s).engine.state = .idle ∧ (after .remove s).table[(3 : EntryIx)].state = .empty ∧
    (after .remove s).events.records.map (fun e => (e.code, e.detail)) =
      [(.cancelled, 2#16), (.cancelled, 2#16), (.exchangeAborted, 260#16), (.stationRetired, 0#16)] := by decide

/-- Buffer 0 in the read port with a report of a given length, the read pointer somewhere. -/
def opened (n p : Nat) : State :=
  let s := buffer 0 n 0#8 .queued { fresh with pool := { fresh.pool with readPort := some 0 } }
  { s with port := { s.port with readPtr := p } }

theorem witness_ReadPortRule :
    (opened 3 0).pool.readPort ≠ none ∧ fresh.pool.readPort = none ∧ fresh.pool.inbound = [] ∧
    { fresh.pool with inbound := [4, 5] }.inbound = 4 :: [5] := by decide

theorem witness_RxdataReadRule :
    (opened 3 3).pool.readPort = some 0 ∧ (opened 3 3).pool.buffers[(0 : BufIx)].payload.length ≤ (opened 3 3).port.readPtr ∧
    fresh.pool.readPort = none ∧ (opened 3 2).port.wide = false ∧
    (opened 3 2).pool.buffers[(0 : BufIx)].payload[(opened 3 2).port.readPtr]? = some 0x41#8 ∧
    (wide (opened 3 1)).pool.buffers[(0 : BufIx)].payload[2]? = some 0x41#8 ∧
    (wide (opened 3 2)).pool.buffers[(0 : BufIx)].payload[3]? = none := by decide

/-- A sweep record in force. -/
def sweeping (st : SweepState) (c l : Nat) (out : Bool) (s : State) : State :=
  { s with sweep := { state := st, cursor := c, last := l, autoAdd := false, outstanding := out } }

theorem witness_SweepCommandRule :
    (args 0#8 9#8 0#8 fresh).port.carg0.toNat = 0 ∧ 127 ≤ (args 1#8 127#8 0#8 fresh).port.carg1.toNat ∧
    (args 5#8 4#8 0#8 fresh).port.carg1.toNat < (args 5#8 4#8 0#8 fresh).port.carg0.toNat ∧
    1 < (args 1#8 126#8 2#8 fresh).port.carg2.toNat ∧
    (let s := args 126#8 126#8 1#8 fresh
     1 ≤ s.port.carg0.toNat ∧ s.port.carg0.toNat ≤ s.port.carg1.toNat ∧ s.port.carg1.toNat ≤ 126 ∧ s.port.carg2.toNat ≤ 1 ∧
     s.sweep.state = .idle) ∧
    (sweeping .active 1 126 false fresh).sweep.state ≠ .idle ∧ (sweeping .active 1 126 false fresh).sweep.outstanding = false ∧
    (sweeping .active 1 126 true fresh).sweep.outstanding = true ∧ (sweeping .stopping 1 126 true fresh).sweep.state = .stopping := by
  decide

theorem witness_LineRules :
    fresh.line.state = .stopped ∧ (line .faulted fresh).line.state = .faulted ∧ (line .running fresh).line.state = .running ∧
    (line .draining fresh).line.state = .draining ∧ (line .running fresh).engine.state = .idle ∧
    (exchanging (.probe 5) .await fresh).engine.state ≠ .idle ∧ fresh.engine.record = none := by decide

theorem witness_AbandonmentRule :
    (polling .sending .online).engine.record.map (fun r => r.exch) = some (.poll 3 0) ∧
    (polling .sending .online).pool.reserved = some 0 ∧ (polling .sending .online).table[(3 : EntryIx)].state ≠ .retiring ∧
    (polling .sending .retiring).table[(3 : EntryIx)].state = .retiring ∧ (polling .sending .retiring).pool.outbound[(3 : EntryIx)] = [] ∧
    (delivering .sending .inFlight .online).engine.record.map (fun r => r.exch) = some (.deliver 3 0) ∧
    (delivering .sending .inFlight .online).pool.buffers[(0 : BufIx)].mark ≠ .cancelPending ∧
    (withOutbound 3 [0] (delivering .sending .cancelPending .retiring)).pool.outbound[(3 : EntryIx)] = [0] ∧
    (delivering .sending .cancelPending .retiring).pool.buffers[(0 : BufIx)].mark = .cancelPending ∧
    (exchanging (.probe 9) .sending (sweeping .active 9 12 true fresh)).engine.record.map (fun r => r.exch) = some (.probe 9) ∧
    (sweeping .active 9 12 true fresh).sweep.state ≠ .stopping ∧ (sweeping .stopping 9 12 true fresh).sweep.state = .stopping ∧
    (exchanging (.broadcast 2) .sending fresh).engine.record.map (fun r => r.exch) = some (.broadcast 2) := by decide

theorem witness_EvpopRule :
    fresh.events.records = [] ∧ { fresh.events with records := [{ code := .resetDone }], lost := 1 }.records = { code := .resetDone } :: [] ∧
    fresh.events.lost = 0 ∧ { fresh.events with lost := 255 }.lost ≠ 0 := by decide

theorem witness_WindowReads :
    (window 0#8 31#8 17#8 fresh).port.winsel = 0#8 ∧ (window 0#8 31#8 17#8 fresh).port.winidx.toNat = (31 : EntryIx).val ∧
    (window 0#8 31#8 17#8 fresh).port.winfld = 17#8 ∧ (window 0#8 0#8 0#8 fresh).port.winfld = 0#8 ∧
    (window 1#8 63#8 0#8 fresh).port.winsel = 1#8 ∧ (window 1#8 63#8 0#8 fresh).port.winidx.toNat = (63 : SlotIx).val ∧
    31 < (window 0#8 32#8 0#8 fresh).port.winidx.toNat ∧ 17 < (window 0#8 0#8 18#8 fresh).port.winfld.toNat ∧
    63 < (window 1#8 64#8 0#8 fresh).port.winidx.toNat ∧
    (after .resetAsserted fresh).port.inReset = true ∧ (0x3F#6 : BitVec 6) ∉ ([0x0C#6, 0x3D#6] : List (BitVec 6)) ∧
    fresh.events.view = none ∧ { fresh.events with view := some { code := .resetDone } }.view = some { code := .resetDone } ∧
    fresh.PoolLaw ∧ fresh.pool.readPort = none ∧ (opened 3 0).pool.readPort = some 0 := by decide

theorem witness_WideRegisterReadRule :
    { fresh.port with hold := some (.passcnt, 3#8) }.hold = some (.passcnt, 3#8) ∧ (∀ b : Byte, fresh.port.hold ≠ some (.passcnt, b)) ∧
    selection (window 1#8 64#8 0#8 fresh).port = .outOfRange := by decide

theorem witness_WindataWriteRule :
    selection (window 0#8 32#8 0#8 fresh).port = .outOfRange ∧ (window 0#8 3#8 2#8 fresh).port.winfld.toNat ≤ 17 ∧
    fresh.table[(3 : EntryIx)].state = .empty ∧ (window 0#8 3#8 17#8 fresh).port.winfld ≠ 2#8 ∧
    (entry 3 .new fresh).table[(3 : EntryIx)].state ≠ .empty ∧ 1 < (2#16 : Word).toNat ∧ (1#16 : Word).toNat % 256 ≤ 1 ∧
    (wide fresh).port.wide = true ∧ 32 ≤ (256#16 : Word).toNat ∧ (256#16 : Word).toNat ≠ 255 ∧ (255#16 : Word).toNat % 256 = 255 ∧
    (31#16 : Word).toNat = (31 : EntryIx).val ∧ (window 1#8 63#8 0#8 fresh).port.winidx.toNat = (63 : SlotIx).val := by decide

theorem witness_HostErrorLatchRule :
    fresh.port.latch.flag = false ∧ (hostError .overread fresh).port.latch.flag = true ∧
    (hostError .overread fresh).port.latch.count < 255 ∧ 255 ≤ ({ flag := true, first := none, count := 255 } : Latch).count ∧
    (0x80#16 : Word).getLsbD 7 = true ∧ (0x7F#16 : Word).getLsbD 7 = false := by decide

theorem witness_InterruptEnableRule : 8 ≤ (8#16 : Word).toNat % 256 ∧ (0x107#16 : Word).toNat % 256 < 8 := by decide

theorem witness_LineConfigRule :
    7 < ((8#16 : Word).extractLsb' 0 8).toNat ∧ 31 < ((32#16 : Word).extractLsb' 0 8).toNat ∧
    63 < ((64#16 : Word).extractLsb' 0 8).toNat ∧ 15 < ((16#16 : Word).extractLsb' 0 8).toNat ∧
    ((4#16 : Word).extractLsb' 0 8).toNat / 4 % 32 ≠ 0 ∧ ((0x83#16 : Word).extractLsb' 0 8).toNat / 4 % 32 = 0 ∧
    ((7#16 : Word).extractLsb' 0 8).toNat ≤ 7 ∧ 1 ≤ ((1#16 : Word).extractLsb' 0 8).toNat ∧
    ((0x100#16 : Word).extractLsb' 0 8).toNat = 0 := by decide

theorem witness_ParameterWrites :
    64 < ((65#16 : Word).extractLsb' 0 8).toNat ∧ ((64#16 : Word).extractLsb' 0 8).toNat ≤ 64 ∧
    24 < ((25#16 : Word).extractLsb' 0 8).toNat ∧ ((24#16 : Word).extractLsb' 0 8).toNat ≤ 24 ∧
    16 ≤ ((16#16 : Word).extractLsb' 0 8).toNat ∧ ((15#16 : Word).extractLsb' 0 8).toNat < 16 ∧
    15 < ((16#16 : Word).extractLsb' 0 8).toNat ∧ ((8#16 : Word).extractLsb' 0 8).toNat ≤ 8 ∧
    8 < ((9#16 : Word).extractLsb' 0 8).toNat ∧ ((0x100#16 : Word).extractLsb' 0 8).toNat = 0 := by decide

theorem witness_OtherRegisterWrites : ((1#16 : Word).extractLsb' 0 8).toNat ≤ 1 ∧ 1 < ((2#16 : Word).extractLsb' 0 8).toNat := by decide

theorem witness_StartEdgeRule :
    fresh.framer.rx = .idle ∧ fresh.framer.mode ≠ .echo ∧ (held .hunt fresh).framer.rx ≠ .idle ∧
    (sending 0 true false fresh).framer.mode = .echo ∧ (assembling .hunt fresh).framer.rx = .assembling 0 false ∧
    (assembling .hunt fresh).framer.mode ≠ .watch ∧ (assembling .watch (asked fresh)).framer.mode = .watch ∧
    (asked fresh).line.quiet = some ⟨100, 200⟩ ∧ fresh.line.quiet = none := by decide

theorem witness_CharactersOutsideAFrame :
    (assembling .watch fresh).framer.rx = .assembling 0 false ∧ (assembling .watch fresh).framer.mode = .watch ∧
    (assembling .hunt fresh).framer.mode = .hunt ∧ (0xB5#8 : Byte) ≠ 0xB4#8 ∧ (assembling .discard fresh).framer.mode = .discard ∧
    (held .watch fresh).framer.rx = .low 0 ∧ (held .hunt fresh).framer.mode = .hunt ∧ (held .collect fresh).framer.mode = .collect ∧
    (held .discard fresh).framer.mode = .discard := by decide

/-- A collection that has taken a number of characters of a frame of two payload bytes. -/
def collecting (n : Nat) : State :=
  let s := assembling .collect fresh
  { s with framer := { s.framer with taken := n, hdrLength := 2#8 } }

theorem witness_CollectionRule :
    (assembling .hunt fresh).framer.mode = .hunt ∧ (collecting 1).framer.rx = .assembling 0 false ∧
    (collecting 1).framer.mode = .collect ∧ (collecting 1).framer.taken = 1 ∧ (collecting 2).framer.taken = 2 ∧
    (collecting 3).framer.taken = 3 ∧ (48#8 : Byte).toNat ≤ 48 ∧ 48 < (49#8 : Byte).toNat ∧
    (4 ≤ (collecting 5).framer.taken ∧ (collecting 5).framer.taken < 4 + (collecting 5).framer.hdrLength.toNat) ∧
    (collecting 6).framer.taken = 4 + (collecting 6).framer.hdrLength.toNat ∧
    (collecting 7).framer.taken = 5 + (collecting 7).framer.hdrLength.toNat := by decide

theorem witness_EchoComparisonRule :
    (sending 0 true false (line .running fresh)).framer.tx =
      some { chars := [0xB4#8], begun := 0, compared := 0, echoCheck := true, contended := false } ∧
    ([0xB4#8] : List Byte)[0]? = some 0xB4#8 ∧ (sending 0 true false (line .running fresh)).line.state = .running ∧
    min 7 (fresh.line.contCount + 1) < fresh.line.cfg.contlim ∧
    fresh.line.cfg.contlim ≤ min 7 ({ fresh.line with contCount := 2 }.contCount + 1) := by decide

theorem witness_TransmissionEnds :
    (sending 0 true true fresh).framer.tx =
      some { chars := [0xB4#8], begun := 0, compared := 0, echoCheck := true, contended := true } ∧
    (sending 1 true false fresh).framer.tx =
      some { chars := [0xB4#8], begun := 0, compared := 1, echoCheck := true, contended := false } ∧
    (sending 0 false false fresh).framer.tx =
      some { chars := [0xB4#8], begun := 0, compared := 0, echoCheck := false, contended := false } ∧
    (exchanging (.broadcast 0) .sending fresh).engine.record ≠ none ∧ (exchanging (.probe 4) .sending fresh).line.state = .running := by
  decide

/-- A guard in progress. -/
def guarding (x : Exchange) (kept : List Report) : State :=
  let s := exchanging x .guard (buffer 0 3 5#8 .inFlight (broadcasting [0, 1] fresh))
  { s with framer := { s.framer with driverEnable := true, guardEnd := some 40 }, engine := { s.engine with kept := kept } }

theorem witness_LineReleaseRule :
    (guarding (.probe 5) []).framer.guardEnd = some 40 ∧
    (guarding (.probe 5) []).engine.record.map (fun r => r.exch.code) = some 3 ∧ (guarding (.probe 5) []).engine.kept = [] ∧
    (guarding (.probe 5) [.leadTaken 9]).engine.kept = [.leadTaken 9] ∧
    9 ≤ max 0 40 + fresh.line.cfg.lreply * (20 * Config.halfBit fresh.line.cfg.lrate) ∧
    (guarding (.broadcast 0) []).engine.record.map (fun r => r.exch) = some (.broadcast 0) ∧
    (guarding (.broadcast 0) []).engine.record.map (fun r => r.attempt) = some 1 ∧
    1 < fresh.line.cfg.lopt.toNat % 4 + 1 ∧ (0x80#8 : Byte).toNat % 4 + 1 ≤ 1 ∧
    (guarding (.broadcast 0) []).pool.broadcast = 0 :: [1] := by decide

theorem witness_LimitsRule :
    fresh.framer.gap = none ∧ { (collecting 3).framer with gap := some 7 }.gap = some 7 ∧ (collecting 3).framer.mode = .collect ∧
    (assembling .discard fresh).framer.mode = .discard ∧ (polling .await .new).engine.state = .await ∧
    (polling .drain .new).engine.state = .drain ∧ { (polling .await .new).engine with takeLimit := some 9 }.takeLimit = some 9 ∧
    { (polling .drain .new).engine with drainLimit := some 9 }.drainLimit = some 9 := by decide

theorem witness_TransmissionRule :
    (asked (polling .settle .new)).line.quiet = some ⟨100, 200⟩ ∧ (asked (polling .settle .new)).engine.state = .settle ∧
    (asked (polling .settleWait .new)).engine.state = .settleWait ∧
    (asked (polling .settleWait .new)).engine.record.map (fun r => r.exch) = some (.poll 3 0) ∧
    (asked (delivering .settleWait .inFlight .new)).engine.record.map (fun r => r.exch) = some (.deliver 3 0) ∧
    (asked (exchanging (.probe 9) .settleWait fresh)).engine.record.map (fun r => r.exch) = some (.probe 9) ∧
    (asked (exchanging (.broadcast 0) .settleWait fresh)).engine.record.map (fun r => r.exch) = some (.broadcast 0) := by decide

/-- A transmission of LEAD alone, in its lead-in, its start bit, its last data bit and its stop bit, and cut off by a contention. -/
theorem witness_TransmissionRule_txd :
    fresh.framer.tx = none ∧
    (let s := sending 0 true false fresh
     let bitTime := 2 * Config.halfBit fresh.line.cfg.lrate
     s.framer.tx = some { chars := [0xB4#8], begun := 0, compared := 0, echoCheck := true, contended := false } ∧
     ([0xB4#8] : List Byte)[0]? = some 0xB4#8 ∧ 0 < 0 + bitTime + 0 * (10 * bitTime) ∧
     txdAt s 0 = true ∧ txdAt s bitTime = false ∧ txdAt s (9 * bitTime) = true ∧ txdAt s (10 * bitTime) = true) ∧
    (sending 0 true true fresh).framer.tx =
      some { chars := [0xB4#8], begun := 0, compared := 0, echoCheck := true, contended := true } := by decide

theorem witness_FaultAndPaceRule :
    (asked (polling .settle .new)).line.quiet = some ⟨100, 200⟩ ∧ (asked (polling .settle .new)).line.state = .running ∧
    { fresh.sched with paceTimer := some 5, walk := .paceWait }.paceTimer = some 5 ∧
    { fresh.sched with paceTimer := some 5, walk := .paceWait }.walk = .paceWait ∧ fresh.sched.walk ≠ .paceWait := by decide

theorem witness_ReportRule :
    (guarding (.probe 5) []).engine.state = .guard ∧ (polling .await .new).engine.record.map (fun r => r.exch) = some (.poll 3 0) ∧
    (polling .await .new).engine.state = .await ∧ { (polling .await .new).engine with windowEnd := some 9 }.windowEnd = some 9 ∧
    (polling .receiving .new).engine.state = .receiving ∧
    (let s := header 0x8D#8 0x80#8 48#8 (polling .receiving .new)
     s.framer.hdrAddress.toNat = 128 + frameAddress (.poll 3 0) s ∧ frameAddress (.poll 3 0) s ≤ 127 ∧
     s.framer.hdrKindTag.toNat / 16 ∈ [8, 9, 10] ∧ s.framer.hdrLength.toNat ≤ 48) ∧
    (header 0x0D#8 0x80#8 0#8 (polling .receiving .new)).framer.hdrAddress.toNat ≠
      128 + frameAddress (.poll 3 0) (polling .receiving .new) ∧
    (0xB0#8 : Byte).toNat / 16 ∉ [8, 9, 10] ∧ (0xA0#8 : Byte).toNat / 16 = 10 ∧ (1#8 : Byte).toNat ≠ 0 ∧
    (exchanging (.probe 5) .receiving fresh).engine.record.map (fun r => r.exch) = some (.probe 5) ∧
    (assembling .discard (polling .receiving .new)).framer.mode = .discard ∧ (polling .drain .new).engine.state = .drain := by decide

theorem witness_ClassificationRule :
    (polling .receiving .new).engine.state = .receiving ∧ (0x80#8 : Byte).toNat / 16 = 8 ∧ (0x90#8 : Byte).toNat / 16 = 9 ∧
    (0xA0#8 : Byte).toNat / 16 = 10 ∧ (0xB0#8 : Byte).toNat / 16 = 11 ∧ (0xC0#8 : Byte).toNat / 16 = 12 ∧
    (0xD0#8 : Byte).toNat / 16 = 13 ∧ (0xE0#8 : Byte).toNat / 16 = 14 ∧ (3#8 : Byte).toNat % 2 = 1 ∧ (2#8 : Byte).toNat % 2 = 0 ∧
    48 < (expand [0#8, 48#8]).length ∧ (expand [0#8, 47#8]).length ≤ 48 ∧
    (delivering .receiving .inFlight .online).engine.record.map (fun r => r.tag) = some (some 8#4) ∧
    (0xB0#8 : Byte).extractLsb' 0 3 = (8#4 : BitVec 4).extractLsb' 0 3 ∧
    (0xB1#8 : Byte).extractLsb' 0 3 ≠ (8#4 : BitVec 4).extractLsb' 0 3 ∧
    (exchanging (.probe 5) .receiving fresh).engine.record.map (fun r => r.exch) = some (.probe 5) := by decide

theorem witness_FailureRule :
    (polling .drain .new).engine.record.map (fun r => r.attempt) = some 1 ∧ 1 ≤ fresh.params.retries ∧
    { fresh.params with retries := 0 }.retries < 1 ∧ (polling .drain .retiring).table[(3 : EntryIx)].state = .retiring ∧
    (polling .drain .new).table[(3 : EntryIx)].state ≠ .retiring ∧
    (exchanging (.broadcast 2) .sending fresh).engine.record.map (fun r => r.exch) = some (.broadcast 2) ∧
    (exchanging (.probe 9) .drain fresh).engine.record.map (fun r => (r.exch, r.lastFailure)) = some (.probe 9, some .noReply) ∧
    (delivering .drain .cancelPending .online).pool.buffers[(0 : BufIx)].mark = .cancelPending ∧
    (delivering .drain .inFlight .online).pool.buffers[(0 : BufIx)].mark ≠ .cancelPending := by decide

theorem witness_OutcomeRule :
    (polling .receiving .new).table[(3 : EntryIx)].state = .new ∧ (polling .receiving .online).table[(3 : EntryIx)].state = .online ∧
    (polling .receiving .suspect).table[(3 : EntryIx)].state = .suspect ∧ (polling .receiving .lost).table[(3 : EntryIx)].state = .lost ∧
    (polling .receiving .parked).table[(3 : EntryIx)].state = .parked ∧
    (polling .receiving .retiring).table[(3 : EntryIx)].state = .retiring ∧
    (polling .receiving .retiring).pool.outbound[(3 : EntryIx)] = [] ∧
    min 15 ((polling .receiving .new).table[(3 : EntryIx)].miss + 1) < fresh.params.lostLim ∧
    { fresh.params with lostLim := 1 }.lostLim ≤ min 15 ((polling .receiving .new).table[(3 : EntryIx)].miss + 1) ∧
    (delivering .receiving .inFlight .online).table[(3 : EntryIx)].holdOnLoss = false ∧
    (delivering .receiving .inFlight .online).pool.outbound[(3 : EntryIx)] = [0, 1] ∧
    (addedEntry 5 true false).holdOnLoss = true ∧
    (let s := withOutbound 3 [0] (delivering .drain .cancelPending .retiring)
     s.table[(3 : EntryIx)].state = .retiring ∧ s.pool.outbound[(3 : EntryIx)] ≠ [] ∧
     s.pool.buffers[(0 : BufIx)].mark = .cancelPending ∧ s.engine.record.map (fun r => r.lateCancel) = some false) ∧
    (after .cancel (withOutbound 3 [0] (delivering .drain .inFlight .retiring))).engine.record.map (fun r => r.lateCancel) =
      some true := by decide

theorem witness_ReplyRule :
    (polling .receiving .online).pool.reserved = some 0 ∧ (polling .receiving .retiring).table[(3 : EntryIx)].state = .retiring ∧
    (polling .receiving .online).table[(3 : EntryIx)].lastTaken ≠ some 0#3 ∧ { Entry.vacant with lastTaken := some 7#3 }.lastTaken = some 7#3 ∧
    (delivering .receiving .inFlight .online).pool.outbound[(3 : EntryIx)] = 0 :: [1] ∧
    (sent 0 (delivering .receiving .inFlight .online)).pool.buffers[(0 : BufIx)].transmitted = true ∧
    (sent 0 (delivering .receiving .cancelPending .online)).pool.buffers[(0 : BufIx)].mark = .cancelPending ∧
    min 15 (0 + 1) < fresh.params.busyLim ∧ { fresh.params with busyLim := 1 }.busyLim ≤ min 15 (0 + 1) ∧
    (delivering .receiving .inFlight .retiring).table[(3 : EntryIx)].state = .retiring ∧
    (delivering .receiving .cancelPending .retiring).engine.record.map (fun r => r.lateCancel) = some false ∧
    (let s := after .cancel (sent 0 (withOutbound 3 [0] (delivering .receiving .inFlight .retiring)))
     s.engine.record.map (fun r => r.lateCancel) = some true ∧ s.pool.buffers[(0 : BufIx)].mark = .cancelPending ∧
     s.table[(3 : EntryIx)].state = .retiring ∧ s.pool.outbound[(3 : EntryIx)] = 0 :: []) := by decide

/-- A line that runs with an idle engine and an arrival in this step. -/
def looking (s : State) : State := arrival (line .running s)

theorem witness_LookRule :
    fresh.sched.lookDue = false ∧ (arrival fresh).sched.lookDue = true ∧ (arrival fresh).line.state ≠ .running ∧
    (looking fresh).sched.lookDue = true ∧ (looking fresh).engine.state = .idle ∧ (looking fresh).line.state = .running ∧
    (looking (broadcasting [0, 1] fresh)).pool.broadcast = 0 :: [1] ∧ (looking fresh).pool.broadcast = [] ∧
    (looking (listUrgent 3 (entry 3 .online fresh))).sched.urgent = 3 :: [] ∧
    (looking (entry 3 .online fresh)).table[(3 : EntryIx)].backoff = 0 ∧
    (withOutbound 3 [0, 1] fresh).pool.outbound[(3 : EntryIx)] = 0 :: [1] ∧ fresh.pool.lowestFree = some 0 ∧
    (looking (sweeping .active 5 5 false fresh)).sweep.cursor ≤ (looking (sweeping .active 5 5 false fresh)).sweep.last ∧
    (∀ i : EntryIx, (entry 3 .online fresh).table[i].state ≠ .empty → (entry 3 .online fresh).table[i].address ≠ 5) ∧
    { fresh.sched with credit := true }.credit = true ∧ fresh.sched.credit = false ∧
    { fresh.sched with walk := .dormant }.walk ≠ .walking ∧ fresh.sched.walk = .walking := by decide

/-- No buffer is free: all stand in the inbound queue. -/
def exhaustedPool (s : State) : State := { s with pool := { s.pool with inbound := List.finRange 24 } }

/-- Urgent heads that are not served by a DELIVER, and a sweep claim that skips held addresses or completes. -/
theorem witness_LookRule_heads :
    (looking (listUrgent 3 fresh)).sched.urgent = 3 :: [] ∧ (looking (listUrgent 3 fresh)).table[(3 : EntryIx)].state = .empty ∧
    (looking (listUrgent 3 (entry 3 .parked fresh))).table[(3 : EntryIx)].state = .parked ∧
    (looking (listUrgent 3 (entry 3 .lost fresh))).table[(3 : EntryIx)].state = .lost ∧
    0 < (modEntry 3 (fun e => { e with backoff := 2 }) (entry 3 .online fresh)).table[(3 : EntryIx)].backoff ∧
    (exhaustedPool fresh).pool.lowestFree = none ∧ (exhaustedPool fresh).sched.exhausted = false ∧
    { fresh.sched with exhausted := true }.exhausted = true ∧
    (let s := sweeping .active 13 14 false (entry 3 .new fresh)
     s.sweep.cursor ≤ 14 ∧ 14 ≤ s.sweep.last ∧
     s.table[(3 : EntryIx)].state ≠ .empty ∧ s.table[(3 : EntryIx)].address = 13 ∧
     ∀ j : EntryIx, s.table[j].state ≠ .empty → s.table[j].address ≠ 14) ∧
    (let s := sweeping .active 13 13 false (entry 3 .new fresh)
     s.sweep.cursor ≤ s.sweep.last ∧ s.table[(3 : EntryIx)].state ≠ .empty ∧ s.table[(3 : EntryIx)].address = 13) := by decide

theorem witness_WalkRule :
    (∀ st, (entry 3 st fresh).table[(3 : EntryIx)].state = st) ∧ 0 < { Entry.vacant with backoff := 1 }.backoff ∧
    (withOutbound 3 [0] (entry 3 .online fresh)).pool.outbound[(3 : EntryIx)] = 0 :: [] ∧
    (1 : SlotIx).val = fresh.sched.pointer.val + 1 ∧ (1 : SlotIx).val < fresh.params.ringLen ∧
    { fresh.params with ringLen := 1 }.ringLen ≤ fresh.sched.pointer.val + 1 ∧
    { fresh.sched with pointer := 63 }.pointer.val = 63 ∧ { fresh.params with ringLen := 63 }.ringLen ≤ (63 : SlotIx).val ∧
    fresh.sched.pointer = 0 ∧ { fresh.sched with paceTimer := some 1 }.paceTimer ≠ none ∧
    fresh.sched.run.count < fresh.params.ringLen ∧ fresh.params.ringLen ≤ { fresh.sched.run with count := 64 }.count ∧
    { fresh.sched.run with deferral := true }.deferral = true ∧ { fresh.sched.run with live := true }.live = true ∧
    (fresh.sched.ring.set 1 (some (3 : EntryIx)))[(1 : SlotIx)] = some 3 ∧ fresh.pool.lowestFree = some 0 ∧
    { fresh.pool with inbound := List.finRange 24 }.lowestFree = none := by
  refine ⟨fun st => by simp [entry, withEntry], ?_⟩
  decide

/-- The moves of the walk: a visit that starts an exchange, one that is barren, one that ends the pass, a LOST entry off its recovery
pass, and the walk made DORMANT. -/
theorem witness_WalkRule_moves :
    (let s := { entry 3 .online fresh with sched := { fresh.sched with ring := fresh.sched.ring.set 0 (some 3) } }
     s.sched.pointer.val < s.params.ringLen ∧ s.sched.paceTimer = none ∧ (visit s).1 = .started) ∧
    (visit fresh).1 ≠ .started ∧ (advanceSlot (visit fresh).2).1 = false ∧
    (endRun (advanceSlot (visit fresh).2).2).sched.walk ≠ .dormant ∧
    (let s := { fresh with sched := { fresh.sched with pointer := 63, run := { count := 63 } } }
     (advanceSlot (visit s).2).1 = true ∧ (endRun (advanceSlot (visit s).2).2).sched.walk = .dormant) ∧
    { fresh.sched with passCount := 1#16 }.passCount.toNat % fresh.params.recover ≠ 0 ∧
    fresh.sched.passCount.toNat % fresh.params.recover = 0 ∧
    (sweepClaim fresh).1 = false ∧ (sweepClaim (sweeping .active 5 5 false { fresh with
      sched := { fresh.sched with credit := true } })).1 = true := by decide

theorem witness_SweepOutcomeRule :
    (sweeping .active 5 9 true fresh).sweep.cursor < (sweeping .active 5 9 true fresh).sweep.last ∧
    (sweeping .active 9 9 true fresh).sweep.last ≤ (sweeping .active 9 9 true fresh).sweep.cursor ∧
    (sweeping .stopping 5 9 true fresh).sweep.state = .stopping ∧ (sweeping .active 5 9 true fresh).sweep.autoAdd = false ∧
    (∀ i : EntryIx, full.table[i].state ≠ .empty) ∧ (entry 0 .new fresh).table[(1 : EntryIx)].state = .empty ∧
    (∀ j : EntryIx, j < 1 → (entry 0 .new fresh).table[j].state ≠ .empty) ∧ Reason.framing ≠ .contention ∧ Reason.framing ≠ .noReply ∧
    (entry 3 .new fresh).table[(3 : EntryIx)].address = 13 ∧
    (∀ j : EntryIx, (entry 3 .new fresh).table[j].state ≠ .empty → (entry 3 .new fresh).table[j].address = 13 → j = 3) ∧
    (sweeping .stopping 9 9 true fresh).sweep.last ≤ (sweeping .stopping 9 9 true fresh).sweep.cursor ∧
    (∀ i : EntryIx, fresh.table[i].state ≠ .empty → fresh.table[i].address ≠ 5) ∧
    { (sweeping .active 5 9 true fresh).sweep with autoAdd := true }.autoAdd = true := by decide

theorem witness_SharedOperations :
    fresh.events.records.length < 32 ∧ 32 ≤ (List.replicate 32 ({ code := .resetDone } : Event)).length ∧
    fresh.events.filter.getLsbD (EventCode.sweepDone.code.toNat / 16 - 1) = true ∧
    { fresh.events with filter := 0#8 }.filter.getLsbD (EventCode.sweepDone.code.toNat / 16 - 1) = false ∧
    { fresh.sched with walk := .bufferWait }.walk = .bufferWait ∧ fresh.sched.walk ≠ .bufferWait ∧
    fresh.sched.urgentDeferred = none ∧ { fresh.sched with urgentDeferred := some 3 }.urgentDeferred = some 3 ∧
    (listUrgent 3 fresh).sched.urgent.head? = some 3 ∧ fresh.sched.urgent.head? ≠ some 3 := by decide

/-- The state of the invariants' witnesses: after reset, a station, its slot and a command that starts its POLL. -/
def started : State := { entry 3 .new fresh with
  sched := { fresh.sched with ring := fresh.sched.ring.set 0 (some 3) }
  pending := [.lineStart] }

/-- A step from it answers a next state, with the POLL in flight. -/
theorem witness_step : (match step started with
    | .next t => t.engine.record.map fun r => r.exch
    | _ => none) = some (.poll 3 0) := by decide

theorem witness_StepsKeepTheTable : started.AddressLaw ∧ started.OnlineLaw ∧ started.PoolLaw := by
  refine ⟨?_, ?_, ?_⟩ <;> decide
theorem witness_StepsKeepTheTarget : started.TargetLaw ∧ started.ReservationLaw := by
  refine ⟨?_, ?_⟩ <;> decide
theorem witness_StepsKeepTheMessages : started.RangeLaw ∧ started.ListLaw ∧ started.MarkLaw ∧ started.HeadLaw := by
  refine ⟨?_, ?_, ?_, ?_⟩ <;> decide
/-- The same laws with a DELIVER in flight and a message behind its head. -/
theorem witness_StepsKeepTheMessages_deliver :
    let s := { delivering .await .inFlight .online with pending := [.takeLimit] }
    s.PoolLaw ∧ s.TargetLaw ∧ s.ReservationLaw ∧ s.RangeLaw ∧ s.ListLaw ∧ s.MarkLaw ∧ s.HeadLaw := by
  refine ⟨?_, ?_, ?_, ?_, ?_, ?_, ?_⟩ <;> decide +kernel
theorem witness_StepsKeepTheScheduler : started.UrgentLaw ∧ started.SchedulerLaw := by
  refine ⟨?_, ?_⟩ <;> decide
theorem witness_StepsKeepTheSweep : started.SweepLaw := by decide
theorem witness_StepsKeepTheLine : started.LineLaw := by decide
theorem witness_StepsKeepTheRecords : started.CounterLaw ∧ started.EventLaw ∧ started.LatchLaw ∧ started.LookLaw := by
  refine ⟨?_, ?_, ?_, ?_⟩ <;> decide

end Sys2Proof.Tests
end

/-! SUPPORT. The station table's commands ADD, REMOVE with no exchange in flight, and CLEAR_COUNTERS: the equations of their
effects, the closed form of a flush, and the proofs of their statements. -/

namespace Sys2Proof.Machine

/-! ## The answer of a command -/

/-- A command that the part takes runs its effect, leaves the answer in the port, and ends with the look (R189). -/
theorem act_command_eq {code : Byte} {f : State → Answer} {s : State} {r : Res} {v : Nat} {t : State}
    (live : s.port.inReset = false) (h : f s = { res := r, val := v, st := t }) :
    act (command code f) s = finish (t.answered code r v) := by
  rw [act_live live]
  simp [command, modPort, State.answered, h]

theorem exec_add_eq {s : State} {r : Res} {v : Nat} {t : State} (live : s.port.inReset = false)
    (h : cmdAdd s = { res := r, val := v, st := t }) : exec .add s = .next (finish (t.answered 0x10#8 r v)) :=
  congrArg Host.Outcome.next (act_command_eq live h)

theorem exec_remove_eq {s : State} {r : Res} {v : Nat} {t : State} (live : s.port.inReset = false)
    (h : cmdRemove s = { res := r, val := v, st := t }) : exec .remove s = .next (finish (t.answered 0x11#8 r v)) :=
  congrArg Host.Outcome.next (act_command_eq live h)

theorem exec_clearCounters_eq {s : State} {r : Res} {v : Nat} {t : State} (live : s.port.inReset = false)
    (h : cmdClearCounters s = { res := r, val := v, st := t }) :
    exec .clearCounters s = .next (finish (t.answered 0x15#8 r v)) :=
  congrArg Host.Outcome.next (act_command_eq live h)

/-! ## Postings as an operation on the event queue (R174) -/

/-- One posting, on the queue alone. -/
def EventQueue.posted (q : EventQueue) (e : Event) : EventQueue :=
  if admits q.filter e.code then
    if q.records.length < Config.eventCapacity then { q with records := q.records ++ [e] }
    else { q with lost := satInc 255 q.lost }
  else q

/-- A posting changes the event queue only, and by what stands in the queue only. -/
theorem post_eq (e : Event) (s : State) : post e s = { s with events := s.events.posted e } := by
  unfold post EventQueue.posted
  split
  · split <;> rfl
  · rfl

theorem posting_eq (es : List Event) (s : State) : s.posting es = { s with events := es.foldl EventQueue.posted s.events } := by
  induction es generalizing s with
  | nil => rfl
  | cons e rest ih =>
    calc s.posting (e :: rest) = (post e s).posting rest := rfl
      _ = { s with events := (e :: rest).foldl EventQueue.posted s.events } := by rw [ih, post_eq]; rfl

theorem posting_append (es fs : List Event) (s : State) : s.posting (es ++ fs) = (s.posting es).posting fs :=
  List.foldl_append

theorem postEntry_eq (c : EventCode) (i : EntryIx) (id : Byte) (detail : Nat) (s : State) :
    postEntry c i id detail s = s.posting [entryEvent c i s.table[i].address id detail] := rfl

/-! ## The return of buffers as an operation on the scheduler (R75, R88, R97) -/

/-- The return of a buffer, on the scheduler alone. -/
def Scheduler.freed (q : Scheduler) : Scheduler :=
  if q.walk = .bufferWait then { q with walk := .walking, run := {}, lookDue := true }
  else if q.urgentDeferred ≠ none ∧ q.urgent.head? = q.urgentDeferred then { q with lookDue := true }
  else q

/-- The return of a buffer changes the scheduler only, and by what stands in the scheduler only. -/
theorem bufferFreed_eq (s : State) : bufferFreed s = { s with sched := s.sched.freed } := by
  unfold bufferFreed Scheduler.freed
  split
  · rfl
  · cases hu : s.sched.urgentDeferred with
    | none => simp
    | some i =>
      by_cases hh : s.sched.urgent.head? = some i
      · simp [hh, arrival, hu]
      · simp [hh]

/-- Several buffers that return in one step do what the first of them does. -/
theorem freed_freed (q : Scheduler) : q.freed.freed = q.freed := by
  unfold Scheduler.freed
  by_cases hw : q.walk = .bufferWait
  · simp [hw]
  · by_cases hu : q.urgentDeferred ≠ none ∧ q.urgent.head? = q.urgentDeferred
    · simp [hw, hu]
    · simp [hw, hu]

theorem freed_urgent (q : Scheduler) : q.freed.urgent = q.urgent := by
  unfold Scheduler.freed
  split
  · rfl
  · split <;> rfl

/-! ## A flush (R104, R106, R110) -/

/-- The delivery number moved on, modulo 8, by a number of departures (R104). -/
def Entry.advanced (e : Entry) (n : Nat) : Entry := { e with nextNum := e.nextNum + BitVec.ofNat 3 n }

theorem advanced_zero (e : Entry) : e.advanced 0 = e := by simp [Entry.advanced]

theorem advanced_advanced (e : Entry) (m n : Nat) : (e.advanced m).advanced n = e.advanced (m + n) := by
  simp [Entry.advanced, BitVec.add_assoc, BitVec.ofNat_add]

/-- The state that the named messages of an entry leave behind as they depart in order, before the postings: the delivery number
moved on by those transmitted, the list without them, and their buffers returned. -/
def departed (i : EntryIx) (bs : List BufIx) (s : State) : State :=
  { s with
    table := s.table.set i (s.table[i].advanced (bs.countP fun b : BufIx => s.pool.buffers[b].transmitted))
    pool := { s.pool with outbound := s.pool.outbound.set i (s.pool.outbound[i].diff bs) }
    sched := if bs = [] then s.sched else s.sched.freed }

theorem departed_nil (i : EntryIx) (s : State) : departed i [] s = s := by
  simp [departed, advanced_zero]

theorem depart_eq (i : EntryIx) (b : BufIx) (s : State) : depart i b s = departed i [b] s := by
  have number (e : Entry) : (if s.pool.buffers[b].transmitted then { e with nextNum := e.nextNum + 1#3 } else e) =
      e.advanced ([b].countP fun b : BufIx => s.pool.buffers[b].transmitted) := by
    rw [List.countP_singleton]
    split
    · rfl
    · rw [advanced_zero]
  simp only [depart, departed, bufferFreed_eq, number, List.diff_cons, List.diff_nil, reduceCtorEq, if_false]
  rfl

theorem departed_cons (i : EntryIx) (b : BufIx) (bs : List BufIx) (s : State) :
    departed i bs (departed i [b] s) = departed i (b :: bs) s := by
  simp [departed, advanced_advanced, freed_freed, List.countP_cons, Nat.add_comm]

theorem departed_posting (i : EntryIx) (bs : List BufIx) (es : List Event) (s : State) :
    departed i bs (s.posting es) = (departed i bs s).posting es := by
  simp only [posting_eq]
  rfl

/-- The records a flush posts, oldest message first (R110). -/
def flushRecords (i : EntryIx) (c : EventCode) (detail : Buffer → Nat) (bs : List BufIx) (s : State) : List Event :=
  bs.map fun b : BufIx => entryEvent c i s.table[i].address s.pool.buffers[b].msgId (detail s.pool.buffers[b])

/-- The records name the entry's address and the messages' own fields, which no departure and no posting changes. -/
theorem flushRecords_departed_posting (i : EntryIx) (c : EventCode) (detail : Buffer → Nat) (bs cs : List BufIx) (es : List Event)
    (s : State) : flushRecords i c detail bs ((departed i cs s).posting es) = flushRecords i c detail bs s := by
  simp [flushRecords, posting_eq, departed, Entry.advanced]

/-- A departure and its record. -/
theorem departWith_eq (i : EntryIx) (b : BufIx) (c : EventCode) (detail : Buffer → Nat) (s : State) :
    departWith i b c (detail s.pool.buffers[b]) s = (departed i [b] s).posting (flushRecords i c detail [b] s) := by
  rw [← flushRecords_departed_posting i c detail [b] [b] [] s]
  unfold departWith
  rw [depart_eq, postEntry_eq]
  rfl

/-- A flush in one piece: all departures, and then all records in the order of the departures. -/
theorem flush_eq (i : EntryIx) (c : EventCode) (detail : Buffer → Nat) (bs : List BufIx) (s : State) :
    flush i c detail bs s = (departed i bs s).posting (flushRecords i c detail bs s) := by
  induction bs generalizing s with
  | nil => exact (departed_nil i s).symm
  | cons b rest ih =>
    calc flush i c detail (b :: rest) s
        = flush i c detail rest ((departed i [b] s).posting (flushRecords i c detail [b] s)) :=
          congrArg (flush i c detail rest) (departWith_eq i b c detail s)
      _ = ((departed i rest (departed i [b] s)).posting (flushRecords i c detail [b] s)).posting
            (flushRecords i c detail rest s) := by rw [ih, departed_posting, flushRecords_departed_posting]
      _ = (departed i (b :: rest) s).posting (flushRecords i c detail (b :: rest) s) := by
          rw [departed_cons, ← posting_append]; rfl

/-! ## ADD (R35) -/

theorem cmdAdd_badAddress {s : State} (h : s.port.carg0.toNat = 0 ∨ 127 ≤ s.port.carg0.toNat) :
    cmdAdd s = refuse .badAddress s := if_pos h

section
variable {s : State} (low : 1 ≤ s.port.carg0.toNat) (high : s.port.carg0.toNat ≤ 126)
include low high

theorem address_inRange : ¬(s.port.carg0.toNat = 0 ∨ 127 ≤ s.port.carg0.toNat) := by omega

theorem cmdAdd_badArgument (h : 3 < s.port.carg1.toNat) : cmdAdd s = refuse .badArgument s := by
  simp only [cmdAdd, if_neg (address_inRange low high), if_pos h]

theorem cmdAdd_duplicateAddress (opts : s.port.carg1.toNat ≤ 3)
    (held : ∃ j : EntryIx, s.table[j].state ≠ .empty ∧ s.table[j].address = s.port.carg0.toNat) :
    cmdAdd s = refuse .duplicateAddress s := by
  simp only [cmdAdd, if_neg (address_inRange low high), if_neg (Nat.not_lt.2 opts), if_pos ((holderOf_isSome_iff _ s).2 held)]

theorem cmdAdd_tableFull (opts : s.port.carg1.toNat ≤ 3)
    (new : ¬∃ j : EntryIx, s.table[j].state ≠ .empty ∧ s.table[j].address = s.port.carg0.toNat)
    (full : lowestEmpty s = none) : cmdAdd s = refuse .tableFull s := by
  simp only [cmdAdd, if_neg (address_inRange low high), if_neg (Nat.not_lt.2 opts),
    if_neg (mt (holderOf_isSome_iff _ s).1 new), full]

theorem cmdAdd_added {i : EntryIx} (opts : s.port.carg1.toNat ≤ 3)
    (new : ¬∃ j : EntryIx, s.table[j].state ≠ .empty ∧ s.table[j].address = s.port.carg0.toNat)
    (found : lowestEmpty s = some i) :
    cmdAdd s = {
      res := .ok
      val := i.val
      st := wake (withEntry i (addedEntry s.port.carg0.toNat (s.port.carg1.getLsbD 0) (s.port.carg1.getLsbD 1)) s) } := by
  simp only [cmdAdd, if_neg (address_inRange low high), if_neg (Nat.not_lt.2 opts),
    if_neg (mt (holderOf_isSome_iff _ s).1 new), found]

end

/-- The option byte's two bits, read as numbers (R35). -/
theorem option_bits {b : Byte} (h : b.toNat ≤ 3) :
    b.getLsbD 0 = decide (b.toNat % 2 = 1) ∧ b.getLsbD 1 = decide (2 ≤ b.toNat) := by
  constructor
  · exact Nat.testBit_zero b.toNat
  · have bit : b.getLsbD 1 = decide (b.toNat / 2 % 2 = 1) := (Nat.testBit_succ b.toNat 0).trans (Nat.testBit_zero _)
    rw [bit, decide_eq_decide]
    omega

/-- Settles O10: the equations of ADD's effect, case by case, with the lowest EMPTY entry found by the search. -/
theorem addRule : Obligations.AddRule := by
  intro s live
  refine ⟨fun h => exec_add_eq live (cmdAdd_badAddress h), fun low high h => exec_add_eq live (cmdAdd_badArgument low high h),
    fun low high opts held => exec_add_eq live (cmdAdd_duplicateAddress low high opts held),
    fun low high opts new full =>
      exec_add_eq live (cmdAdd_tableFull low high opts new ((lowestEmpty_none_iff s).2 full)),
    fun i low high opts new free lowest => exec_add_eq live ?_⟩
  have found : lowestEmpty s = some i := find_lowest _ i (by simpa using free) (by simpa using lowest)
  obtain ⟨hold, urgentMore⟩ := option_bits opts
  rw [cmdAdd_added low high opts new found, hold, urgentMore]
  rfl

/-! ## REMOVE with no exchange in flight (R38) -/

/-- A retirement in one piece: the entry vacated, and then STATION_RETIRED with the address it held. -/
theorem retire_eq (i : EntryIx) (s : State) :
    retire i s = (vacate i s).posting [entryEvent .stationRetired i s.table[i].address 0#8 0] := rfl

theorem vacate_posting (i : EntryIx) (es : List Event) (s : State) : vacate i (s.posting es) = (vacate i s).posting es := by
  simp only [posting_eq]
  rfl

theorem dropUrgent_posting (i : EntryIx) (es : List Event) (s : State) :
    dropUrgent i (s.posting es) = (dropUrgent i s).posting es := by
  simp only [posting_eq]
  rfl

/-- What a flush, the urgent list's loss of the entry and the EMPTY values leave together (R38, R22). -/
theorem vacate_dropUrgent_departed (i : EntryIx) (bs : List BufIx) (s : State) :
    let freed := if bs = [] then s else bufferFreed s
    vacate i (dropUrgent i (departed i bs s)) = { freed with
      table := s.table.set i {}
      pool := { s.pool with outbound := s.pool.outbound.set i [] }
      sched := { freed.sched with urgent := s.sched.urgent.filter fun j => j != i } } := by
  rw [bufferFreed_eq]
  by_cases noMessage : bs = [] <;>
    simp [noMessage, vacate, dropUrgent, modEntry, withEntry, withOutbound, departed, Entry.vacant, freed_urgent]

/-- REMOVE with no exchange in flight, in one piece: the state it leaves, and then its records in their order (R38, R110). -/
theorem removeNow_eq (i : EntryIx) (s : State) :
    removeNow i s = (vacate i (dropUrgent i (departed i s.pool.outbound[i] s))).posting
      (flushRecords i .cancelled (fun _ => 2) s.pool.outbound[i] s ++
        [entryEvent .stationRetired i s.table[i].address 0#8 0]) := by
  have address : (dropUrgent i (departed i s.pool.outbound[i] s)).table[i].address = s.table[i].address := by
    simp [departed, Entry.advanced]
  rw [posting_append, ← vacate_posting, ← address]
  unfold removeNow
  rw [flush_eq, dropUrgent_posting, retire_eq]
  simp only [posting_eq]

theorem cmdRemove_badIndex {s : State} (h : 31 < s.port.carg0.toNat) : cmdRemove s = refuse .badEntry s := by
  simp only [cmdRemove, entryArg_none h]

section
variable {s : State} {i : EntryIx} (arg : s.port.carg0.toNat = i.val)
include arg

theorem cmdRemove_empty (h : s.table[i].state = .empty) : cmdRemove s = refuse .badEntry s := by
  simp only [cmdRemove, entryArg_eq arg, if_pos h]

theorem cmdRemove_retiring (h : s.table[i].state = .retiring) : cmdRemove s = refuse .wrongState s := by
  simp only [cmdRemove, entryArg_eq arg, h, reduceCtorEq, if_false, if_true]

theorem cmdRemove_idle (occupied : s.table[i].state ≠ .empty) (staying : s.table[i].state ≠ .retiring)
    (idle : s.table[i].inFlight = false) : cmdRemove s = { res := .ok, val := 0, st := removeNow i s } := by
  simp only [cmdRemove, entryArg_eq arg, if_neg occupied, if_neg staying, idle, Bool.false_eq_true, if_false]

end

/-- Settles O11: the flush, the urgent list and the EMPTY values in one piece, with all the records after them. -/
theorem removeAtOnce : Obligations.RemoveAtOnce := by
  intro s live
  refine ⟨fun h => exec_remove_eq live (cmdRemove_badIndex h), fun i arg => ⟨
    fun h => exec_remove_eq live (cmdRemove_empty arg h), fun h => exec_remove_eq live (cmdRemove_retiring arg h),
    fun occupied staying idle => exec_remove_eq live ?_⟩⟩
  rw [cmdRemove_idle arg occupied staying idle, removeNow_eq, vacate_dropUrgent_departed]
  rfl

/-! ## CLEAR_COUNTERS (R44) -/

theorem cmdClearCounters_badIndex {s : State} (h : 32 < s.port.carg0.toNat) : cmdClearCounters s = refuse .badEntry s := by
  simp only [cmdClearCounters, if_neg (Nat.ne_of_gt h), entryArg_none (Nat.lt_of_succ_lt h)]

theorem cmdClearCounters_all {s : State} (h : s.port.carg0.toNat = 32) :
    cmdClearCounters s = { res := .ok, val := 0, st := clearAll s } := if_pos h

/-- CLEAR_COUNTERS for all, entry by entry. -/
theorem clearAll_table (s : State) : (clearAll s).table = Vector.ofFn fun i : EntryIx =>
    if s.table[i].state = .empty ∨ s.table[i].state = .retiring then s.table[i] else zeroCounters s.table[i] := by
  ext1
  simp [clearAll]

theorem cmdClearCounters_one {s : State} {i : EntryIx} (arg : s.port.carg0.toNat = i.val) : cmdClearCounters s =
    if s.table[i].state = .empty then refuse .badEntry s
    else if s.table[i].state = .retiring then refuse .wrongState s
    else { res := .ok, val := 0, st := modEntry i zeroCounters s } := by
  have single : s.port.carg0.toNat ≠ 32 := by omega
  simp only [cmdClearCounters, if_neg single, entryArg_eq arg]

/-- Settles O15: the equations of the effect for an argument above 32, of 32, and of 0 to 31. -/
theorem clearCountersRule : Obligations.ClearCountersRule := by
  intro s live
  refine ⟨fun h => exec_clearCounters_eq live (cmdClearCounters_badIndex h), fun h => exec_clearCounters_eq live ?_,
    fun i arg => ⟨fun h => exec_clearCounters_eq live ?_, fun h => exec_clearCounters_eq live ?_,
      fun occupied staying => exec_clearCounters_eq live ?_⟩⟩
  · rw [cmdClearCounters_all h]
    exact congrArg (fun t => Answer.mk .ok 0 { s with table := t }) (clearAll_table s)
  · rw [cmdClearCounters_one arg, if_pos h]
    rfl
  · rw [cmdClearCounters_one arg, h]
    rfl
  · rw [cmdClearCounters_one arg, if_neg occupied, if_neg staying]
    rfl

end Sys2Proof.Machine

/-! SUPPORT. The station table's command URGENT: the equations of its effect, and the proof of its statement. -/

namespace Sys2Proof.Machine

/-! ## URGENT (R91) -/

theorem exec_urgent_eq {s : State} {r : Res} {v : Nat} {t : State} (live : s.port.inReset = false)
    (h : cmdUrgent s = { res := r, val := v, st := t }) : exec .urgent s = .next (finish (t.answered 0x14#8 r v)) :=
  congrArg Host.Outcome.next (act_command_eq live h)

theorem cmdUrgent_badIndex {s : State} (h : 31 < s.port.carg0.toNat) : cmdUrgent s = refuse .badEntry s := by
  simp only [cmdUrgent, entryArg_none h]

section
variable {s : State} {i : EntryIx} (arg : s.port.carg0.toNat = i.val)
include arg

theorem cmdUrgent_empty (h : s.table[i].state = .empty) : cmdUrgent s = refuse .badEntry s := by
  simp only [cmdUrgent, entryArg_eq arg, if_pos h]

theorem cmdUrgent_notPolled (h : s.table[i].state = .parked ∨ s.table[i].state = .retiring) :
    cmdUrgent s = refuse .wrongState s := by
  have occupied : s.table[i].state ≠ .empty := by rcases h with h | h <;> rw [h] <;> decide
  simp only [cmdUrgent, entryArg_eq arg, if_neg occupied, if_pos h]

/-- In the four states that the ring walk serves, only the list decides. -/
theorem cmdUrgent_polled (h : s.table[i].state = .new ∨ s.table[i].state = .online ∨ s.table[i].state = .suspect ∨
      s.table[i].state = .lost) : cmdUrgent s =
    if s.sched.urgent.contains i then { res := .ok, val := s.sched.urgent.length, st := wake s }
    else if 8 ≤ s.sched.urgent.length then refuse .listFull s
    else { res := .ok, val := s.sched.urgent.length + 1, st := wake (listUrgent i s) } := by
  have occupied : s.table[i].state ≠ .empty := by rcases h with h | h | h | h <;> rw [h] <;> decide
  have served : ¬(s.table[i].state = .parked ∨ s.table[i].state = .retiring) := by
    rcases h with h | h | h | h <;> rw [h] <;> decide
  simp only [cmdUrgent, entryArg_eq arg, if_neg occupied, if_neg served]
  rfl

end

/-- Settles O14: the equations of URGENT's effect for an index above 31, for the states it refuses, and, in the others, for an
entry already listed, a full list, and a list with room. -/
theorem urgentRule : Obligations.UrgentRule := by
  intro s live
  refine ⟨fun h => exec_urgent_eq live (cmdUrgent_badIndex h), fun i arg => ⟨
    fun h => exec_urgent_eq live (cmdUrgent_empty arg h), fun h => exec_urgent_eq live (cmdUrgent_notPolled arg h),
    fun polled listed => exec_urgent_eq live ?_, fun polled unlisted full => exec_urgent_eq live ?_,
    fun polled unlisted room => exec_urgent_eq live ?_⟩⟩
  · rw [cmdUrgent_polled arg polled, if_pos (List.contains_iff_mem.2 listed)]
  · rw [cmdUrgent_polled arg polled, if_neg (mt List.contains_iff_mem.1 unlisted), if_pos full]
    rfl
  · rw [cmdUrgent_polled arg polled, if_neg (mt List.contains_iff_mem.1 unlisted), if_neg (Nat.not_le.2 room)]
    rfl

end Sys2Proof.Machine

/-! SUPPORT. The staging commands STAGE_OPEN, STAGE_COMMIT and STAGE_DISCARD: the equations of their effects, and the proofs of
their statements. -/

namespace Sys2Proof.Machine

theorem exec_stageOpen_eq {s : State} {r : Res} {v : Nat} {t : State} (live : s.port.inReset = false)
    (h : cmdStageOpen s = { res := r, val := v, st := t }) : exec .stageOpen s = .next (finish (t.answered 0x20#8 r v)) :=
  congrArg Host.Outcome.next (act_command_eq live h)

theorem exec_stageCommit_eq {s : State} {r : Res} {v : Nat} {t : State} (live : s.port.inReset = false)
    (h : cmdStageCommit s = { res := r, val := v, st := t }) : exec .stageCommit s = .next (finish (t.answered 0x21#8 r v)) :=
  congrArg Host.Outcome.next (act_command_eq live h)

theorem exec_stageDiscard_eq {s : State} {r : Res} {v : Nat} {t : State} (live : s.port.inReset = false)
    (h : cmdStageDiscard s = { res := r, val := v, st := t }) : exec .stageDiscard s = .next (finish (t.answered 0x22#8 r v)) :=
  congrArg Host.Outcome.next (act_command_eq live h)

/-! ## STAGE_OPEN (R98) -/

/-- The lowest-numbered buffer that no holder names is the one the search finds (R97). -/
theorem lowestFree_eq {p : Pool} {b : BufIx} (free : b ∉ p.held) (lowest : ∀ c : BufIx, c < b → c ∈ p.held) :
    p.lowestFree = some b :=
  find_lowest _ b (by simpa [Pool.isFree] using free) (by simpa [Pool.isFree] using lowest)

theorem cmdStageOpen_wrongState {s : State} (h : s.pool.staged ≠ none) : cmdStageOpen s = refuse .wrongState s :=
  if_pos (Option.isSome_iff_ne_none.2 h)

section
variable {s : State} (vacant : s.pool.staged = none)
include vacant

theorem not_staged_isSome : ¬s.pool.staged.isSome := by simp [vacant]

theorem cmdStageOpen_noBuffer (h : s.pool.freeCount ≤ s.params.reserve) : cmdStageOpen s = refuse .noBuffer s := by
  simp only [cmdStageOpen, if_neg (not_staged_isSome vacant), if_pos h]

theorem cmdStageOpen_opened {b : BufIx} (h : s.params.reserve < s.pool.freeCount) (found : s.pool.lowestFree = some b) :
    cmdStageOpen s = {
      res := .ok
      val := b.val
      st := { s with
        pool := { s.pool with staged := some b, buffers := s.pool.buffers.set b { s.pool.buffers[b] with payload := [] } }
        port := { s.port with stagePtr := 0 } } } := by
  simp only [cmdStageOpen, if_neg (not_staged_isSome vacant), if_neg (Nat.not_le.2 h), found]
  rfl

end

/-! ## STAGE_DISCARD (R102) -/

theorem cmdStageDiscard_nothingStaged {s : State} (h : s.pool.staged = none) : cmdStageDiscard s = refuse .nothingStaged s := by
  simp only [cmdStageDiscard, h]

/-- The buffer's return does not look at the host port, so the write pointer may return to 0 before it. -/
theorem cmdStageDiscard_discarded {s : State} (h : s.pool.staged ≠ none) : cmdStageDiscard s = {
    res := .ok
    val := 0
    st := bufferFreed { s with pool := { s.pool with staged := none }, port := { s.port with stagePtr := 0 } } } := by
  obtain ⟨b, held⟩ := Option.ne_none_iff_exists'.1 h
  simp only [cmdStageDiscard, held, bufferFreed_eq]
  rfl

/-- Settles O16: the equations of both commands' effects, with the lowest free buffer found by the search. -/
theorem stagingRule : Obligations.StagingRule :=
  ⟨fun _ live => ⟨fun held => exec_stageOpen_eq live (cmdStageOpen_wrongState held),
      fun vacant few => exec_stageOpen_eq live (cmdStageOpen_noBuffer vacant few),
      fun _ vacant enough free lowest =>
        exec_stageOpen_eq live (cmdStageOpen_opened vacant enough (lowestFree_eq free lowest))⟩,
    fun _ live => ⟨fun vacant => exec_stageDiscard_eq live (cmdStageDiscard_nothingStaged vacant),
      fun held => exec_stageDiscard_eq live (cmdStageDiscard_discarded held)⟩⟩

/-! ## STAGE_COMMIT (R100) -/

theorem cmdStageCommit_nothingStaged {s : State} (h : s.pool.staged = none) : cmdStageCommit s = refuse .nothingStaged s := by
  simp only [cmdStageCommit, h]

section
variable {s : State} {b : BufIx} (held : s.pool.staged = some b)
include held

theorem cmdStageCommit_badArgument (h : 32 < s.port.carg0.toNat) : cmdStageCommit s = refuse .badArgument s := by
  simp only [cmdStageCommit, held, if_pos h]

/-- The destination 32 is the broadcast list: only its room decides. -/
theorem cmdStageCommit_broadcast (arg : s.port.carg0.toNat = 32) : cmdStageCommit s =
    if 4 ≤ s.pool.broadcast.length then refuse .broadcastFull s else commitBroadcast b s.port.carg1 s := by
  have allowed : ¬32 < s.port.carg0.toNat := by omega
  have noEntry : entryArg s.port.carg0 = none := entryArg_none (by omega)
  simp only [cmdStageCommit, held, if_neg allowed, noEntry]
  rfl

/-- A destination below 32 is an entry: its state, its hold-on-loss option and its room decide, in this order. -/
theorem cmdStageCommit_entry {i : EntryIx} (arg : s.port.carg0.toNat = i.val) : cmdStageCommit s =
    if s.table[i].state = .empty ∨ s.table[i].state = .retiring then refuse .noStation s
    else if s.table[i].state = .lost ∧ s.table[i].holdOnLoss = false then refuse .stationLost s
    else if s.params.maxq ≤ s.pool.outbound[i].length then refuse .stationQueueFull s
    else commitEntry i b s.port.carg1 s := by
  have allowed : ¬32 < s.port.carg0.toNat := by omega
  simp only [cmdStageCommit, held, if_neg allowed, entryArg_eq arg]

/-- For an occupied entry that does not retire, and that holds its messages if it is LOST, only the room decides. -/
theorem cmdStageCommit_accepting {i : EntryIx} (arg : s.port.carg0.toNat = i.val) (occupied : s.table[i].state ≠ .empty)
    (staying : s.table[i].state ≠ .retiring) (holds : s.table[i].state = .lost → s.table[i].holdOnLoss = true) :
    cmdStageCommit s =
      if s.params.maxq ≤ s.pool.outbound[i].length then refuse .stationQueueFull s else commitEntry i b s.port.carg1 s := by
  have keeps : ¬(s.table[i].state = .lost ∧ s.table[i].holdOnLoss = false) :=
    fun ⟨lost, drops⟩ => Bool.false_ne_true (drops.symm.trans (holds lost))
  rw [cmdStageCommit_entry held arg, if_neg (not_or.2 ⟨occupied, staying⟩), if_neg keeps]

end

/-- Settles O18: the equations of the effect for an argument above 32, of 32, and of 0 to 31, and in each of them its tests in
their order. -/
theorem stageCommitRule : Obligations.StageCommitRule := by
  intro s live
  refine ⟨fun vacant => exec_stageCommit_eq live (cmdStageCommit_nothingStaged vacant), fun b held => ⟨
    fun h => exec_stageCommit_eq live (cmdStageCommit_badArgument held h),
    fun arg full => exec_stageCommit_eq live ?_, fun arg room => exec_stageCommit_eq live ?_,
    fun i arg => ⟨fun gone => exec_stageCommit_eq live ?_, fun lost drops => exec_stageCommit_eq live ?_,
      fun occupied staying holds => ⟨fun full => exec_stageCommit_eq live ?_, fun room => exec_stageCommit_eq live ?_⟩⟩⟩⟩
  · rw [cmdStageCommit_broadcast held arg, if_pos full]
    rfl
  · rw [cmdStageCommit_broadcast held arg, if_neg (Nat.not_le.2 room)]
    rfl
  · rw [cmdStageCommit_entry held arg, if_pos gone]
    rfl
  · have present : ¬(s.table[i].state = .empty ∨ s.table[i].state = .retiring) := by rw [lost]; decide
    rw [cmdStageCommit_entry held arg, if_neg present, if_pos ⟨lost, drops⟩]
    rfl
  · rw [cmdStageCommit_accepting held arg occupied staying holds, if_pos full]
    rfl
  · rw [cmdStageCommit_accepting held arg occupied staying holds, if_neg (Nat.not_le.2 room)]
    rfl

end Sys2Proof.Machine

/-! SUPPORT. The read port's commands RX_OPEN and RX_RELEASE: the equations of their effects, the view of an empty read port, and
the proof of their statement. -/

namespace Sys2Proof.Machine

theorem exec_rxOpen_eq {s : State} {r : Res} {v : Nat} {t : State} (live : s.port.inReset = false)
    (h : cmdRxOpen s = { res := r, val := v, st := t }) : exec .rxOpen s = .next (finish (t.answered 0x30#8 r v)) :=
  congrArg Host.Outcome.next (act_command_eq live h)

theorem exec_rxRelease_eq {s : State} {r : Res} {v : Nat} {t : State} (live : s.port.inReset = false)
    (h : cmdRxRelease s = { res := r, val := v, st := t }) : exec .rxRelease s = .next (finish (t.answered 0x31#8 r v)) :=
  congrArg Host.Outcome.next (act_command_eq live h)

/-! ## RX_OPEN (R131) -/

theorem cmdRxOpen_wrongState {s : State} (h : s.pool.readPort ≠ none) : cmdRxOpen s = refuse .wrongState s :=
  if_pos (Option.isSome_iff_ne_none.2 h)

section
variable {s : State} (vacant : s.pool.readPort = none)
include vacant

theorem not_readPort_isSome : ¬s.pool.readPort.isSome := by simp [vacant]

theorem cmdRxOpen_queueEmpty (h : s.pool.inbound = []) : cmdRxOpen s = refuse .queueEmpty s := by
  simp only [cmdRxOpen, if_neg (not_readPort_isSome vacant), h]

theorem cmdRxOpen_opened {b : BufIx} {rest : List BufIx} (h : s.pool.inbound = b :: rest) : cmdRxOpen s = {
    res := .ok
    val := s.pool.buffers[b].payload.length
    st := { s with
      pool := { s.pool with inbound := rest, readPort := some b }
      port := { s.port with readPtr := 0 } } } := by
  simp only [cmdRxOpen, if_neg (not_readPort_isSome vacant), h]
  rfl

end

/-! ## RX_RELEASE (R134) -/

theorem cmdRxRelease_nothingOpen {s : State} (h : s.pool.readPort = none) : cmdRxRelease s = refuse .nothingOpen s := by
  simp only [cmdRxRelease, h]

/-- The state after the release of the open report: the read port is empty, and its buffer has returned to the free list. -/
def readPortReleased (s : State) : State :=
  bufferFreed { s with pool := { s.pool with readPort := none }, port := { s.port with readPtr := 0 } }

@[simp] theorem readPortReleased_pool (s : State) : (readPortReleased s).pool = { s.pool with readPort := none } :=
  bufferFreed_pool _

@[simp] theorem readPortReleased_params (s : State) : (readPortReleased s).params = s.params := bufferFreed_params _

/-- The buffer's return does not look at the host port, so the read pointer may return to 0 before it. -/
theorem cmdRxRelease_released {s : State} (h : s.pool.readPort ≠ none) :
    cmdRxRelease s = { res := .ok, val := 0, st := readPortReleased s } := by
  obtain ⟨b, held⟩ := Option.ne_none_iff_exists'.1 h
  simp only [cmdRxRelease, held, readPortReleased, bufferFreed_eq]
  rfl

/-! ## The view of the read port (R132, R135) -/

theorem rxField_vacant {f : Buffer → Byte} {none' : Byte} {p : Pool} (h : p.readPort = none) : rxField f none' p = none' := by
  simp only [rxField, h]

/-- With an empty read port, RXENTRY and RXNUM read 0xFF, and RXADDR, RXLEN and RXPACK read 0 (R132). -/
theorem registerValue_readPort_vacant {s : State} (h : s.pool.readPort = none) :
    registerValue 0x20#6 s = 0xFF#8 ∧ registerValue 0x21#6 s = 0#8 ∧ registerValue 0x22#6 s = 0xFF#8 ∧
      registerValue 0x23#6 s = 0#8 ∧ registerValue 0x24#6 s = 0#8 := by
  simp [registerValue, rxField_vacant h]

/-- INQCOUNT is read from the inbound queue alone. -/
theorem registerValue_inqcount_congr {s t : State} (h : t.pool.inbound = s.pool.inbound) :
    registerValue 0x1E#6 t = registerValue 0x1E#6 s :=
  congrArg (fun q : List BufIx => natByte q.length) h

/-- The inbound-ready level looks at the inbound queue and at INQTHR only (R135). -/
theorem inboundReady_congr {s t : State} (queue : t.pool.inbound = s.pool.inbound) (params : t.params = s.params) :
    inboundReady t = inboundReady s := by
  simp only [inboundReady, queue, params]

/-- Settles O21: the equations of both commands' effects; the view registers after a release are those of an empty read port, and
what the release keeps of the pool and the parameters decides the count and the level. -/
theorem readPortRule : Obligations.ReadPortRule := by
  refine ⟨fun s live => ⟨fun held => exec_rxOpen_eq live (cmdRxOpen_wrongState held),
      fun vacant empty => exec_rxOpen_eq live (cmdRxOpen_queueEmpty vacant empty),
      fun b rest vacant queue => exec_rxOpen_eq live (cmdRxOpen_opened vacant queue)⟩,
    fun s live => ⟨fun vacant => exec_rxRelease_eq live (cmdRxRelease_nothingOpen vacant), fun held =>
      ⟨readPortReleased s, exec_rxRelease_eq live (cmdRxRelease_released held), rfl, ?_⟩⟩⟩
  have queue : (readPortReleased s).pool.inbound = s.pool.inbound := by rw [readPortReleased_pool]
  obtain ⟨entry, addr, num, len, pack⟩ := registerValue_readPort_vacant (s := readPortReleased s) (by rw [readPortReleased_pool])
  exact ⟨entry, addr, num, len, pack, registerValue_inqcount_congr queue,
    inboundReady_congr queue (readPortReleased_params s)⟩

end Sys2Proof.Machine

/-! SUPPORT. The sweep's commands SWEEP_START and SWEEP_STOP: the equations of their effects, and the proof of their statement. -/

namespace Sys2Proof.Machine

section
variable {s t : State} {r : Res} {c : SweepState} (live : s.port.inReset = false)
include live

/-- CVAL holds the code of the sweep state that the command leaves, whatever its result (R189). -/
theorem exec_sweepStart_eq (h : cmdSweepStart s = sweepAnswer r t) (left : t.sweep.state = c) :
    exec .sweepStart s = .next (finish (t.answered 0x40#8 r c.code)) :=
  left ▸ congrArg Host.Outcome.next (act_command_eq live h)

theorem exec_sweepStop_eq (h : cmdSweepStop s = sweepAnswer r t) (left : t.sweep.state = c) :
    exec .sweepStop s = .next (finish (t.answered 0x41#8 r c.code)) :=
  left ▸ congrArg Host.Outcome.next (act_command_eq live h)

end

/-! ## SWEEP_START (R139) -/

theorem cmdSweepStart_badArgument {s : State} (h : s.port.carg0.toNat = 0 ∨ 127 ≤ s.port.carg1.toNat ∨
      s.port.carg1.toNat < s.port.carg0.toNat ∨ 1 < s.port.carg2.toNat) :
    cmdSweepStart s = sweepAnswer .badArgument s := if_pos h

/-- The sweep record at the start of a run (R139). -/
def Sweep.begun (p : Port) : Sweep :=
  { state := .active, cursor := p.carg0.toNat, last := p.carg1.toNat, autoAdd := decide (p.carg2.toNat = 1), outstanding := false }

/-- With arguments in their ranges, only the sweep's state decides. -/
theorem cmdSweepStart_inRange {s : State} (low : 1 ≤ s.port.carg0.toNat) (ordered : s.port.carg0.toNat ≤ s.port.carg1.toNat)
    (high : s.port.carg1.toNat ≤ 126) (auto : s.port.carg2.toNat ≤ 1) : cmdSweepStart s =
      if s.sweep.state ≠ .idle then sweepAnswer .wrongState s
      else sweepAnswer .ok (wake (withSweep (Sweep.begun s.port) s)) :=
  if_neg (by omega)

/-! ## SWEEP_STOP (R146) -/

theorem cmdSweepStop_idle {s : State} (h : s.sweep.state = .idle) : cmdSweepStop s = sweepAnswer .wrongState s := by
  simp only [cmdSweepStop, h]

theorem cmdSweepStop_active {s : State} (h : s.sweep.state = .active) : cmdSweepStop s =
    if s.sweep.outstanding then sweepAnswer .pending (withSweep { s.sweep with state := .stopping } s)
    else sweepAnswer .ok (sweepStopped s) := by
  simp only [cmdSweepStop, h]

theorem cmdSweepStop_stopping {s : State} (h : s.sweep.state = .stopping) : cmdSweepStop s = sweepAnswer .pending s := by
  simp only [cmdSweepStop, h]

/-- A stopped sweep is IDLE with its cursor where it stood, and SWEEP_DONE(STOPPED) carries that cursor (R146). -/
theorem sweepStopped_eq (s : State) : sweepStopped s =
    { s with sweep := { s.sweep with state := .idle } }.posting [plainEvent .sweepDone s.sweep.cursor 0#8 2] := rfl

@[simp] theorem sweepStopped_sweep (s : State) : (sweepStopped s).sweep = { s.sweep with state := .idle } := post_sweep _ _

/-- Settles O23: the equations of SWEEP_START's effect outside and inside the argument ranges, and those of SWEEP_STOP's effect in
each sweep state, an ACTIVE sweep with and without a PROBE outstanding. -/
theorem sweepCommandRule : Obligations.SweepCommandRule := by
  refine ⟨fun s live => ⟨fun bad => exec_sweepStart_eq live (cmdSweepStart_badArgument bad) rfl,
      fun low ordered high auto busy => exec_sweepStart_eq live ?_ rfl, fun low ordered high auto idle => ?_⟩,
    fun s live => ⟨fun idle => exec_sweepStop_eq (c := .idle) live (cmdSweepStop_idle idle) idle, fun active settled => ?_,
      fun active outstanding => ?_,
      fun stopping => exec_sweepStop_eq (c := .stopping) live (cmdSweepStop_stopping stopping) stopping⟩⟩
  · rw [cmdSweepStart_inRange low ordered high auto, if_pos busy]
  · have starts : cmdSweepStart s = sweepAnswer .ok (wake (withSweep (Sweep.begun s.port) s)) := by
      rw [cmdSweepStart_inRange low ordered high auto, if_neg (not_not_intro idle)]
    exact exec_sweepStart_eq (c := .active) live starts rfl
  · have stops : cmdSweepStop s = sweepAnswer .ok (sweepStopped s) := by
      rw [cmdSweepStop_active active, if_neg (Bool.eq_false_iff.1 settled)]
    rw [← sweepStopped_eq]
    exact exec_sweepStop_eq (c := .idle) live stops (congrArg Sweep.state (sweepStopped_sweep s))
  · have pends : cmdSweepStop s = sweepAnswer .pending (withSweep { s.sweep with state := .stopping } s) := by
      rw [cmdSweepStop_active active, if_pos outstanding]
    exact exec_sweepStop_eq (c := .stopping) live pends rfl

end Sys2Proof.Machine

/-! SUPPORT. DEVICE_RESET: the equation of the step, and the proof of its statement. -/

namespace Sys2Proof.Machine

/-- A step that owes no look ends with its own effect (log 4). -/
theorem finish_settled {s : State} (h : s.sched.lookDue = false) : finish s = s := if_neg (Bool.eq_false_iff.1 h)

/-- The state that DEVICE_RESET leaves before the answer stands in the port: the pin-reset values at the width found, and
RESET_DONE(DEVICE) in the queue (R198). -/
def deviceResetDone (s : State) : State := { pinReset s.port.wide s with events := resetQueue 0x0F#8 2#16 }

/-- The reset clears the flag of an owed look, so no look follows the answer. -/
theorem exec_deviceReset_eq {s : State} (live : s.port.inReset = false) :
    exec .deviceReset s = .next ((deviceResetDone s).answered 0x5F#8 .ok 0) := by
  have settled : ((deviceResetDone s).answered 0x5F#8 .ok 0).sched.lookDue = false := rfl
  have answers : cmdDeviceReset s = { res := .ok, val := 0, st := deviceResetDone s } := rfl
  exact congrArg Host.Outcome.next ((act_command_eq live answers).trans (finish_settled settled))

/-- With the line STOPPED, the sweep IDLE, the inbound queue and the latch empty and the pool not exhausted, STATUS shows the
event-pending level alone (R195). -/
theorem statusByte_deviceResetDone (s : State) : statusByte ((deviceResetDone s).answered 0x5F#8 .ok 0) = 0x10#8 := by
  have pending : eventPending ((deviceResetDone s).answered 0x5F#8 .ok 0) = true := rfl
  have quiet : inboundReady ((deviceResetDone s).answered 0x5F#8 .ok 0) = false := rfl
  simp only [statusByte, pending, quiet]
  rfl

/-- No source is enabled, so the pending event does not assert the line (R179). -/
theorem irqAsserted_masked {s : State} (h : s.port.mask = 0#3) : irqAsserted s = false := by
  simp [irqAsserted, h]

/-- Settles O5: the equation of the step gives every field, and the answer's CRES and CVAL are their pin-reset values. -/
theorem deviceResetValues : Obligations.DeviceResetValues := fun s live =>
  ⟨pinReset s.port.wide s, (deviceResetDone s).answered 0x5F#8 .ok 0, rfl, exec_deviceReset_eq live, rfl,
    statusByte_deviceResetDone s, irqAsserted_masked rfl⟩

end Sys2Proof.Machine

/-! SUPPORT. Writes of WINDATA: what the window's selectors reach, the equations of the write for each selection, and the proof of
its statement. -/

namespace Sys2Proof.Machine

/-! ## Write accesses (R184) -/

theorem exec_windataWrite_eq {data : Word} {s t : State} (live : s.port.inReset = false) (h : writeWindata data s = t) :
    exec (.windataWrite data) s = .next (finish t.undriven) :=
  h ▸ congrArg Host.Outcome.next (act_live live)

theorem exec_registerWrite_eq {a : BitVec 6} {data : Word} {s t : State} (live : s.port.inReset = false)
    (h : writeRegister a data s = t) : exec (.registerWrite a data) s = .next (finish t.undriven) :=
  h ▸ congrArg Host.Outcome.next (act_live live)

/-! ## The value written (R186, R194) -/

theorem windataValue_toNat (wide : Bool) (data : Word) :
    (windataValue wide data).toNat = if wide then data.toNat else data.toNat % 256 := by
  cases wide with
  | true => rfl
  | false =>
    have byte : data.toNat % 256 < 65536 := by omega
    simpa [windataValue, byteWord, lowByte] using byte

theorem beq_one_eq (w : Word) : (w == 1#16) = decide (w.toNat = 1) := by
  have number : w = 1#16 ↔ w.toNat = 1 := BitVec.toNat_inj.symm
  simp only [beq_eq_decide, number]

theorem ringValue_vacant {w : Word} (h : w.toNat = 255) : ringValue w = some none :=
  if_pos (BitVec.eq_of_toNat_eq h)

theorem not_vacant_of_toNat {w : Word} (h : w.toNat ≠ 255) : w ≠ 0xFF#16 := mt (congrArg BitVec.toNat) h

theorem ringValue_entry {w : Word} {i : EntryIx} (h : w.toNat = i.val) : ringValue w = some (some i) := by
  have occupied : w ≠ 0xFF#16 := not_vacant_of_toNat (by omega)
  simp [ringValue, occupied, h]

theorem ringValue_bad {w : Word} (high : 32 ≤ w.toNat) (h : w.toNat ≠ 255) : ringValue w = none := by
  rw [ringValue, if_neg (not_vacant_of_toNat h), dif_neg (Nat.not_lt.2 high)]

/-! ## The selection (R192, R193) -/

/-- The fields are numbered 0 to 17 without a gap: only the last case of the table, for every other number, selects none. -/
theorem entryField_inRange {b : Byte} (h : b.toNat ≤ 17) : ∃ f, entryField b = some f := by
  unfold entryField
  split
  case h_19 => grind
  all_goals exact ⟨_, rfl⟩

/-- A field's number is its place in the type (R192). -/
theorem entryField_number {b : Byte} {f : EntryField} (h : entryField b = some f) : b.toNat = f.ctorIdx := by
  unfold entryField at h
  split at h <;> cases h <;> assumption

theorem selection_field {p : Port} {i : EntryIx} {f : EntryField} (sel : p.winsel = 0#8) (index : p.winidx.toNat = i.val)
    (fld : entryField p.winfld = some f) : selection p = .field i f := by
  simp only [selection, if_pos sel, entryArg_eq index, fld]

theorem slotArg_eq {b : Byte} {k : SlotIx} (h : b.toNat = k.val) : slotArg b = some k := by
  simp [slotArg, h]

theorem selection_slot {p : Port} {k : SlotIx} (sel : p.winsel = 1#8) (index : p.winidx.toNat = k.val) :
    selection p = .slot k := by
  have ring : p.winsel ≠ 0#8 := by rw [sel]; decide
  simp only [selection, if_neg ring, slotArg_eq index]

/-! ## The write for each selection (R194) -/

theorem writeWindata_outOfRange {data : Word} {s : State} (h : selection s.port = .outOfRange) :
    writeWindata data s = hostError .badIndex s := by
  simp only [writeWindata, h]

/-- The host may write two fields of an entry, its options (R24). -/
theorem putOption_fixed {f : EntryField} (v : Bool) (e : Entry) (hold : f ≠ .holdOnLoss) (urgent : f ≠ .urgentOnMore) :
    putOption f v e = none := by
  cases f
  case holdOnLoss => exact absurd rfl hold
  case urgentOnMore => exact absurd rfl urgent
  all_goals rfl

section
variable {data : Word} {s : State} {i : EntryIx} {f : EntryField} (sel : selection s.port = .field i f)
include sel

theorem writeWindata_fixed (hold : f ≠ .holdOnLoss) (urgent : f ≠ .urgentOnMore) :
    writeWindata data s = hostError .readOnly s := by
  simp only [writeWindata, sel, putOption_fixed _ _ hold urgent]

theorem writeWindata_empty (empty : s.table[i].state = .empty) : writeWindata data s = hostError .readOnly s := by
  simp only [writeWindata, sel, if_pos empty]
  split <;> rfl

/-- For an option of an occupied entry only the value decides. -/
theorem writeWindata_option {e : Entry} (occupied : s.table[i].state ≠ .empty)
    (put : putOption f (decide ((windataValue s.port.wide data).toNat = 1)) s.table[i] = some e) :
    writeWindata data s =
      if 1 < (windataValue s.port.wide data).toNat then hostError .badValue s else withEntry i e s := by
  simp only [writeWindata, sel, beq_one_eq, put, if_neg occupied]

end

section
variable {data : Word} {s : State} {k : SlotIx} (sel : selection s.port = .slot k)
include sel

theorem writeWindata_slot_bad (bad : ringValue (windataValue s.port.wide data) = none) :
    writeWindata data s = hostError .badValue s := by
  simp only [writeWindata, sel, bad]

/-- A ring slot that takes the value is a wake (R89). -/
theorem writeWindata_slot_taken {x : Option EntryIx} (taken : ringValue (windataValue s.port.wide data) = some x) :
    writeWindata data s = wake { s with sched := { s.sched with ring := s.sched.ring.set k x } } := by
  simp only [writeWindata, sel, taken]

end

/-- Settles O30: the equation of the write for a selection out of range, for a field of an entry (fixed, or an option of an EMPTY or
an occupied entry) and for a ring slot. -/
theorem windataWriteRule : Obligations.WindataWriteRule := by
  intro data s live v
  have value : (windataValue s.port.wide data).toNat = v := windataValue_toNat s.port.wide data
  refine ⟨exec_registerWrite_eq live rfl, fun out => exec_windataWrite_eq live (writeWindata_outOfRange out),
    fun i entry index range => ⟨fun fixed => exec_windataWrite_eq live ?_,
      fun occupied option high => exec_windataWrite_eq live ?_,
      fun occupied hold low => exec_windataWrite_eq live ?_, fun occupied urgent low => exec_windataWrite_eq live ?_⟩,
    fun k ring index => ⟨fun high filled => exec_windataWrite_eq live ?_, fun vacant => exec_windataWrite_eq live ?_,
      fun i named => exec_windataWrite_eq live ?_⟩⟩
  · obtain ⟨f, fld⟩ := entryField_inRange range
    have sel := selection_field entry index fld
    rcases fixed with empty | ⟨notHold, notUrgent⟩
    · exact writeWindata_empty sel empty
    · refine writeWindata_fixed sel ?_ ?_ <;> rintro rfl
      · exact notHold (BitVec.eq_of_toNat_eq (entryField_number fld))
      · exact notUrgent (BitVec.eq_of_toNat_eq (entryField_number fld))
  · rcases option with fld | fld
    · have sel := selection_field entry index (f := .holdOnLoss) (by rw [fld]; rfl)
      rw [writeWindata_option sel occupied rfl, value, if_pos high]
    · have sel := selection_field entry index (f := .urgentOnMore) (by rw [fld]; rfl)
      rw [writeWindata_option sel occupied rfl, value, if_pos high]
  · have sel := selection_field entry index (f := .holdOnLoss) (by rw [hold]; rfl)
    rw [writeWindata_option sel occupied rfl, value, if_neg (Nat.not_lt.2 low)]
    rfl
  · have sel := selection_field entry index (f := .urgentOnMore) (by rw [urgent]; rfl)
    rw [writeWindata_option sel occupied rfl, value, if_neg (Nat.not_lt.2 low)]
    rfl
  · exact writeWindata_slot_bad (selection_slot ring index) (ringValue_bad (value ▸ high) (value ▸ filled))
  · exact writeWindata_slot_taken (selection_slot ring index) (ringValue_vacant (value.trans vacant))
  · exact writeWindata_slot_taken (selection_slot ring index) (ringValue_entry (value.trans named))

end Sys2Proof.Machine

/-! SUPPORT. The step, once for all: what each command does before the look, and the ways a step can end. -/

namespace Sys2Proof.Machine

/-- What a command does to the part, before the look that may follow. -/
def effect : Instr → State → State
  | .pinReset busw => pinReset busw
  | .add => command 0x10#8 cmdAdd
  | .remove => command 0x11#8 cmdRemove
  | .park => command 0x12#8 cmdPark
  | .resume => command 0x13#8 cmdResume
  | .urgent => command 0x14#8 cmdUrgent
  | .clearCounters => command 0x15#8 cmdClearCounters
  | .stageOpen => command 0x20#8 cmdStageOpen
  | .stageCommit => command 0x21#8 cmdStageCommit
  | .stageDiscard => command 0x22#8 cmdStageDiscard
  | .cancel => command 0x23#8 cmdCancel
  | .rxOpen => command 0x30#8 cmdRxOpen
  | .rxRelease => command 0x31#8 cmdRxRelease
  | .sweepStart => command 0x40#8 cmdSweepStart
  | .sweepStop => command 0x41#8 cmdSweepStop
  | .lineStart => command 0x50#8 cmdLineStart
  | .lineHalt => command 0x51#8 cmdLineHalt
  | .lineAbort rxdHigh => command 0x52#8 (cmdLineAbort rxdHigh)
  | .lineReset => command 0x53#8 cmdLineReset
  | .deviceReset => command 0x5F#8 cmdDeviceReset
  | .unknownCommand code => writeCmd code
  | .stgdataWrite data => writeAccess (writeStgdata data)
  | .rxdataRead => readAccess readRxdata
  | .evpopRead => readAccess readEvpop
  | .windataRead => readAccess (readLower .windata)
  | .windataWrite data => writeAccess (writeWindata data)
  | .wideRegisterRead reg upper => readAccess (readWide reg upper)
  | .herrWrite data => writeAccess (writeHerr data)
  | .intsetWrite data => writeAccess (writeIntset data)
  | .intclrWrite data => writeAccess (writeIntclr data)
  | .lineConfigWrite reg data => writeAccess (writeLineConfig reg data)
  | .ringlenWrite data => writeAccess (writeRinglen data)
  | .inqthrWrite data => writeAccess (writeInqthr data)
  | .evfilterWrite data => writeAccess (writeEvfilter data)
  | .registerWrite addr data => writeAccess (writeRegister addr data)
  | .droppedAccess => writeAccess id
  | .startEdgeCheck rxdHigh => startEdgeCheck rxdHigh
  | .strayCharacter _ stop => completeIn .watch stop fun _ => watchCharacter
  | .huntCharacter data stop => completeIn .hunt stop fun edge => huntCharacter edge data stop
  | .collectCharacter data stop => completeIn .collect stop fun _ => collectCharacter data stop
  | .discardCharacter _ stop => completeIn .discard stop fun _ => discardCharacter stop
  | .breakCharacter => breakCharacter
  | .echoComparison start data stop engineFirst => echoComparison start data stop engineFirst
  | .contentionStop rxdHigh => contentionStop rxdHigh
  | .frameSent rxdHigh => frameSent rxdHigh
  | .lineRelease => lineRelease
  | .gapExpiry => gapExpiry
  | .takeLimit => takeLimit
  | .drainLimit => drainLimit
  | .quietDeadline => quietDeadline
  | .babbleDeadline => babbleDeadline
  | .paceExpiry => paceExpiry
  | .resetAsserted => resetAsserted
  | .startEdge wait => startEdge wait
  | .receiverRearm wait => receiverRearm wait

/-- Every command but the two edges of RESET# is taken whole: its effect and the look, or nothing while the part is held in reset
(R189, R197). -/
theorem exec_eq_act (c : Instr) (s : State) (rise : ∀ b, c ≠ .pinReset b) (fall : c ≠ .resetAsserted) :
    exec c s = .next (act (effect c) s) := by
  cases c
  case pinReset b => exact absurd rfl (rise b)
  case resetAsserted => exact absurd rfl fall
  all_goals rfl

/-- The two edges of RESET# have their effect whether or not the part is held in reset, and no look follows them (R197). -/
theorem exec_pinReset (b : Bool) (s : State) : exec (.pinReset b) s = .next (pinReset b s) := rfl

theorem exec_resetAsserted (s : State) : exec .resetAsserted s = .next (resetAsserted s) := rfl

/-- The four ways a command can end: a rise or a fall of RESET#, nothing while the part is held in reset, or its effect and the
look. -/
theorem exec_cases {c : Instr} {s t : State} (h : exec c s = .next t) :
    (∃ b, c = .pinReset b ∧ t = pinReset b s) ∨ t = resetAsserted s ∨ t = s ∨ (∀ b, c ≠ .pinReset b) ∧ t = finish (effect c s) := by
  by_cases rise : ∃ b, c = .pinReset b
  · obtain ⟨b, rfl⟩ := rise
    exact .inl ⟨b, rfl, (Host.Outcome.next.inj h).symm⟩
  · by_cases fall : c = .resetAsserted
    · subst fall
      exact .inr (.inl (Host.Outcome.next.inj h).symm)
    · rw [exec_eq_act c s (fun b e => rise ⟨b, e⟩) fall] at h
      have acted : act (effect c) s = t := Host.Outcome.next.inj h
      cases held : s.port.inReset with
      | true => exact .inr (.inr (.inl (acted.symm.trans (act_held held))))
      | false => exact .inr (.inr (.inr ⟨fun b e => rise ⟨b, e⟩, acted.symm.trans (act_live held)⟩))

theorem step_idle {s : State} (h : s.pending = []) : step s = .next s := by simp only [step, h]

theorem step_front {c : Instr} {rest : List Instr} {s : State} (h : s.pending = c :: rest) :
    step s = exec c { s with pending := rest } := by simp only [step, h]

/-- Settles O1: by the two equations of the step. -/
theorem stepRunsFrontCommand : Obligations.StepRunsFrontCommand :=
  ⟨fun _ _ _ h => step_front h, fun _ h => step_idle h⟩

/-- A property that no command ends, started with any queue of commands, is one that no step ends. -/
theorem step_keeps {P : State → Prop} (queue : ∀ (s : State) (q : List Instr), P s → P { s with pending := q })
    (command : ∀ (c : Instr) (s t : State), exec c s = .next t → P s → P t) {s t : State} (h : step s = .next t) (hs : P s) :
    P t := by
  cases front : s.pending with
  | nil =>
    rw [step_idle front] at h
    exact Host.Outcome.next.inj h ▸ hs
  | cons c rest =>
    rw [step_front front] at h
    exact command c _ t h (queue s rest hs)

end Sys2Proof.Machine

/-! SUPPORT. The moves: the small changes of which every step is made, each with what it must respect. A state is taken together with
the exchange it is held to have in flight (`Flight`), part by part, so that a move can end one part of an exchange while the others
still stand: the reply reservation, the message, the target's flag, the probe. A law is then shown once for each move. -/

namespace Sys2Proof.Machine

/-! ## The parts of an exchange -/

/-- The message an exchange carries, with the list it heads: that of an entry, or the broadcast list. -/
inductive Carried where
  | toEntry (i : EntryIx) (b : BufIx)
  | toAll (b : BufIx)

/-- The buffer of a message carried. -/
def Carried.buffer : Carried → BufIx
  | .toEntry _ b => b
  | .toAll b => b

/-- The message heads its list. -/
def Carried.Heads (p : Pool) : Carried → Prop
  | .toEntry i b => p.outbound[i].head? = some b
  | .toAll b => p.broadcast.head? = some b

/-- The parts of an exchange that the blocks keep a record of: its target entry, its message, its reply buffer, and the address it
probes. -/
structure Flight where
  target : Option EntryIx := none
  message : Option Carried := none
  reply : Option BufIx := none
  probed : Option Nat := none

/-- The parts that an exchange has by its kind (R48). -/
def Exchange.flight : Exchange → Flight
  | .poll i b => { target := some i, reply := some b }
  | .deliver i b => { target := some i, message := some (.toEntry i b) }
  | .probe a => { probed := some a }
  | .broadcast b => { message := some (.toAll b) }

/-- The parts of the exchange in flight; none while there is no record. -/
def State.flight (s : State) : Flight :=
  match s.engine.record with
  | none => {}
  | some r => r.exch.flight

theorem flight_of_record {s : State} {r : InFlight} (h : s.engine.record = some r) : s.flight = r.exch.flight := by
  simp only [State.flight, h]

theorem flight_of_none {s : State} (h : s.engine.record = none) : s.flight = {} := by
  simp only [State.flight, h]

/-! ## What the moves respect -/

/-- The three counters and the miss count within their widths (R26, R30). -/
def Entry.Counted (e : Entry) : Prop := e.miss ≤ 15 ∧ e.goodCount ≤ 65535 ∧ e.failCount ≤ 65535 ∧ e.dupCount ≤ 255

/-- The scheduler serves the entry's state: NEW, ONLINE, SUSPECT or LOST (R91, R93). -/
def EntryState.Served (e : EntryState) : Prop := e ≠ .empty ∧ e ≠ .parked ∧ e ≠ .retiring

/-- An entry that stays occupied keeps its address, one that is ONLINE has no miss that it had not before, and the counts stay in
their widths. -/
structure EntryKept (e e' : Entry) : Prop where
  occupied : e'.state ≠ .empty → e.state ≠ .empty ∧ e'.address = e.address
  online : e'.state = .online → e'.miss = 0 ∨ e.state = .online ∧ e'.miss = e.miss
  counts : e.Counted → e'.Counted

/-- What an edit can do with the in-flight flag: leave it, clear it at the end of an exchange to the entry (an exchange without a
target finds it clear), or set it at the start of one; and an exchange to an EMPTY entry, which no run reaches, ends with no edit. -/
inductive FlagMove (i : EntryIx) (e e' : Entry) : Option EntryIx → Option EntryIx → Prop where
  | same (x : Option EntryIx) (flag : e'.inFlight = e.inFlight) : FlagMove i e e' x x
  | cleared (x : Option EntryIx) (target : x = some i ∨ x = none) (flag : e'.inFlight = false) (staying : e.state ≠ .retiring) :
      FlagMove i e e' x none
  | set (flag : e'.inFlight = true) : FlagMove i e e' none (some i)
  | gone (empty : e.state = .empty) : FlagMove i e e' (some i) none

/-- An edit of an occupied entry, or of the target: it stays occupied or EMPTY as it was, no more parked or retiring than it was, and
keeps its place on or off the urgent list. -/
structure EntryEdit (i : EntryIx) (x y : Option EntryIx) (e e' : Entry) : Prop where
  kept : EntryKept e e'
  occupied : e.state ≠ .empty ∨ x = some i
  empty : e'.state = .empty ↔ e.state = .empty
  idle : e'.state = .parked ∨ e'.state = .retiring → e'.state = e.state
  listed : e'.urgentListed = e.urgentListed
  flag : FlagMove i e e' x y

/-- An edit that takes the entry off the urgent list, and may park it, lose it, or, while an exchange to it is in flight, make it
RETIRING. -/
structure Unlisting (e e' : Entry) : Prop where
  kept : EntryKept e e'
  occupied : e.state ≠ .empty
  stays : e'.state ≠ .empty
  retiring : e'.state = .retiring → e.state = .retiring ∨ e.inFlight = true
  listed : e'.urgentListed = false
  flag : e'.inFlight = e.inFlight

/-- A new entry in an EMPTY place (R35, R37): its address is held by no entry, and it is a station address or the one probed. -/
structure Occupying (probed : Option Nat) (s : State) (i : EntryIx) (e : Entry) : Prop where
  vacant : s.table[i].state = .empty
  served : e.state.Served
  clear : e.miss = 0 ∧ e.goodCount = 0 ∧ e.failCount = 0 ∧ e.dupCount = 0
  flags : e.inFlight = false ∧ e.urgentListed = false
  fresh : holderOf e.address s = none
  station : (1 ≤ e.address ∧ e.address ≤ 126) ∨ probed = some e.address

/-- What a change of the event queue respects (R169, R173, R174). -/
structure EventsKept (q q' : EventQueue) : Prop where
  count : q.lost ≤ 255 → q'.lost ≤ 255
  law : (q.records.length ≤ 32 ∧ (q.lost ≠ 0 → q.records.length = 32)) →
    q'.records.length ≤ 32 ∧ (q'.lost ≠ 0 → q'.records.length = 32)
  filter : q.filter.toNat ≤ 15 → q'.filter.toNat ≤ 15

/-- The latch's law (R181) on the latch alone. -/
def Latch.Lawful (l : Latch) : Prop := (l.count ≠ 0 → l.flag = true) ∧ (l.flag = true → l.first.isSome = true)

/-- What a change of the host port respects (R181, R185). -/
structure PortKept (p p' : Port) : Prop where
  count : p.latch.count ≤ 255 → p'.latch.count ≤ 255
  law : p.latch.Lawful → p'.latch.Lawful
  wide : p'.wide = p.wide

/-- What a change of the parameters and the scheduler's record respects; the urgent list has moves of its own. -/
structure SchedKept (s : State) (p : Params) (q : Scheduler) : Prop where
  urgent : q.urgent = s.sched.urgent
  range : s.RangeLaw → { s with params := p }.RangeLaw
  law : s.SchedulerLaw → { s with params := p, sched := q }.SchedulerLaw

/-- What a change of the pool respects that leaves the lists of messages and their marks alone. -/
structure PoolKept (p p' : Pool) (x y : Option BufIx) : Prop where
  nodup : p.held.Nodup → p'.held.Nodup
  outbound : p'.outbound = p.outbound
  broadcast : p'.broadcast = p.broadcast
  marks : ∀ b : BufIx, p'.buffers[b].mark = p.buffers[b].mark ∧ p'.buffers[b].transmitted = p.buffers[b].transmitted
  reply : p.reserved = x → p'.reserved = y

/-- The four changes of a message's mark or transmitted flag: the start of an exchange that carries it, a cancellation while it is in
flight, its return to QUEUED, and its transmission. -/
inductive Marking (p : Pool) (b : BufIx) (y : Buffer) : Option Carried → Option Carried → Prop where
  | start (c : Carried) (buffer : c.buffer = b) (heads : c.Heads p) (mark : y.mark ≠ .queued)
      (sent : y.transmitted = p.buffers[b].transmitted) : Marking p b y none (some c)
  | pending (m : Option Carried) (was : p.buffers[b].mark ≠ .queued) (mark : y.mark ≠ .queued)
      (sent : y.transmitted = p.buffers[b].transmitted) : Marking p b y m m
  | clear (c : Carried) (buffer : c.buffer = b) (mark : y.mark = .queued)
      (sent : y.transmitted = p.buffers[b].transmitted) : Marking p b y (some c) none
  | sent (c : Carried) (buffer : c.buffer = b) (mark : y.mark = p.buffers[b].mark) : Marking p b y (some c) (some c)

/-- A message may leave its list if it is QUEUED or nothing is carried, and the message carried may leave it as its exchange ends. -/
inductive Leaving (p : Pool) (b : BufIx) (c : Carried) : Option Carried → Option Carried → Prop where
  | queued (m : Option Carried) (mark : p.buffers[b].mark = .queued) : Leaving p b c m m
  | none : Leaving p b c none none
  | carried : Leaving p b c (some c) none

/-- The sweep's law (R138) on the sweep record alone, with the address probed. -/
def Sweep.Lawful (probed : Option Nat) (w : Sweep) : Prop :=
  (w.state ≠ .idle → 1 ≤ w.cursor ∧ w.cursor ≤ w.last ∧ w.last ≤ 126) ∧
  (w.outstanding = true → w.state ≠ .idle ∧ probed = some w.cursor) ∧
  (probed.isSome = true → w.outstanding = true) ∧
  (w.state = .stopping → w.outstanding = true)

/-! ## The moves -/

/-- A move of the blocks other than the line, the framer and the engine. -/
inductive Move : Flight × State → Flight × State → Prop where
  | events (f : Flight) (s : State) (q : EventQueue) (h : EventsKept s.events q) : Move (f, s) (f, { s with events := q })
  | port (f : Flight) (s : State) (p : Port) (h : PortKept s.port p) : Move (f, s) (f, { s with port := p })
  | sched (f : Flight) (s : State) (p : Params) (q : Scheduler) (h : SchedKept s p q) :
      Move (f, s) (f, { s with params := p, sched := q })
  | edit (f : Flight) (s : State) (i : EntryIx) (e : Entry) (x : Option EntryIx) (h : EntryEdit i f.target x s.table[i] e)
      (message : x = f.target ∨ f.message = none) :
      Move (f, s) ({ f with target := x }, { s with table := s.table.set i e })
  | listed (f : Flight) (s : State) (i : EntryIx) (new : i ∉ s.sched.urgent) (room : s.sched.urgent.length < 8)
      (served : s.table[i].state.Served) : Move (f, s) (f, listUrgent i s)
  | unlisted (f : Flight) (s : State) (i : EntryIx) (e : Entry) (h : Unlisting s.table[i] e) :
      Move (f, s) (f, { s with
        table := s.table.set i e
        sched := { s.sched with urgent := s.sched.urgent.filter fun j => j != i } })
  | served (f : Flight) (s : State) (i : EntryIx) (rest : List EntryIx) (head : s.sched.urgent = i :: rest)
      (occupied : s.table[i].state ≠ .empty) :
      Move (f, s) (f, { s with
        table := s.table.set i { s.table[i] with urgentListed := false }
        sched := { s.sched with urgent := rest } })
  | skipped (f : Flight) (s : State) (i : EntryIx) (rest : List EntryIx) (head : s.sched.urgent = i :: rest)
      (empty : s.table[i].state = .empty) : Move (f, s) (f, { s with sched := { s.sched with urgent := rest } })
  | occupy (f : Flight) (s : State) (i : EntryIx) (e : Entry) (h : Occupying f.probed s i e) :
      Move (f, s) (f, { s with table := s.table.set i e })
  | vacate (f : Flight) (s : State) (i : EntryIx) (idle : s.table[i].inFlight = false) (unlisted : i ∉ s.sched.urgent)
      (occupied : s.table[i].state ≠ .empty) : Move (f, s) (f, vacate i s)
  | retire (f : Flight) (s : State) (i : EntryIx) (retiring : s.table[i].state = .retiring)
      (target : f.target = some i ∨ f.target = none) (message : ∀ c, f.message = some c → ∃ b, c = .toEntry i b) :
      Move (f, s) ({ f with target := none, message := none }, vacate i s)
  | pool (f : Flight) (s : State) (p : Pool) (x : Option BufIx) (h : PoolKept s.pool p f.reply x) :
      Move (f, s) ({ f with reply := x }, { s with pool := p })
  | enqueue (f : Flight) (s : State) (i : EntryIx) (b : BufIx) (y : Buffer) (staged : s.pool.staged = some b)
      (mark : y.mark = .queued) (sent : y.transmitted = false) (occupied : s.table[i].state ≠ .empty)
      (room : s.pool.outbound[i].length < s.params.maxq) :
      Move (f, s) (f, { s with pool := { s.pool with
        buffers := s.pool.buffers.set b y
        staged := none
        outbound := s.pool.outbound.set i (s.pool.outbound[i] ++ [b]) } })
  | enqueueAll (f : Flight) (s : State) (b : BufIx) (y : Buffer) (staged : s.pool.staged = some b)
      (mark : y.mark = .queued) (sent : y.transmitted = false) (room : s.pool.broadcast.length < 4) :
      Move (f, s) (f, { s with pool := { s.pool with
        buffers := s.pool.buffers.set b y
        staged := none
        broadcast := s.pool.broadcast ++ [b] } })
  | depart (f : Flight) (s : State) (i : EntryIx) (b : BufIx) (m : Option Carried)
      (h : Leaving s.pool b (.toEntry i b) f.message m) :
      Move (f, s) ({ f with message := m }, withOutbound i (s.pool.outbound[i].erase b) s)
  | departAll (f : Flight) (s : State) (b : BufIx) (n : BitVec 3) (m : Option Carried)
      (h : Leaving s.pool b (.toAll b) f.message m) :
      Move (f, s) ({ f with message := m }, { s with pool := { s.pool with
        broadcast := s.pool.broadcast.erase b
        broadcastNum := n } })
  | mark (f : Flight) (s : State) (b : BufIx) (y : Buffer) (m : Option Carried) (h : Marking s.pool b y f.message m)
      (paired : ∀ i c, m = some (.toEntry i c) → f.message = m ∨ f.target = some i) :
      Move (f, s) ({ f with message := m }, { s with pool := { s.pool with buffers := s.pool.buffers.set b y } })
  | sweep (f : Flight) (s : State) (w : Sweep) (a : Option Nat) (h : s.sweep.Lawful f.probed → w.Lawful a) :
      Move (f, s) ({ f with probed := a }, { s with sweep := w })

/-- A change of the line, the framer, the engine or the clock: the two character counters, the contention count and the line
configuration stay in their ranges, and the engine holds a record exactly while it is out of IDLE; the clock is not turned back. -/
inductive Control : Flight × State → Flight × State → Prop where
  | line (f : Flight) (s : State) (l : LineControl)
      (counts : s.line.noise ≤ 65535 ∧ s.line.stray ≤ 65535 ∧ s.line.contCount ≤ 7 →
        l.noise ≤ 65535 ∧ l.stray ≤ 65535 ∧ l.contCount ≤ 7)
      (range : s.RangeLaw → { s with line := l }.RangeLaw) : Control (f, s) (f, { s with line := l })
  | framer (f : Flight) (s : State) (fr : Framer) : Control (f, s) (f, { s with framer := fr })
  | engine (f : Flight) (s : State) (e : Engine) (record : s.RecordLaw → { s with engine := e }.RecordLaw) :
      Control (f, s) (f, { s with engine := e })
  | clock (f : Flight) (s : State) (n : Nat) (later : s.now ≤ n) : Control (f, s) (f, { s with now := n })

/-- The two resets that leave nothing in flight. -/
inductive Cleared : Flight × State → Flight × State → Prop where
  | pin (f : Flight) (s : State) : Cleared (f, s) ({}, pinReset s.port.wide s)
  | line (f : Flight) (s : State) : Cleared (f, s) ({}, lineReset s)

/-- Any change of which a step is made. -/
def Change (p q : Flight × State) : Prop := Move p q ∨ Control p q ∨ Cleared p q

/-- Several moves in turn. -/
def Moves : Flight × State → Flight × State → Prop := Relation.ReflTransGen Move

/-- Several changes in turn. -/
def Changes : Flight × State → Flight × State → Prop := Relation.ReflTransGen Change

theorem Move.moves {p q : Flight × State} (h : Move p q) : Moves p q := .single h

theorem Moves.changes {p q : Flight × State} (h : Moves p q) : Changes p q := Relation.ReflTransGen.mono (fun _ _ => .inl) _ _ h

theorem Control.changes {p q : Flight × State} (h : Control p q) : Changes p q := .single (.inr (.inl h))

theorem Cleared.changes {p q : Flight × State} (h : Cleared p q) : Changes p q := .single (.inr (.inr h))

theorem Moves.refl (p : Flight × State) : Moves p p := Relation.ReflTransGen.refl

theorem Moves.trans {p q r : Flight × State} (h : Moves p q) (g : Moves q r) : Moves p r := Relation.ReflTransGen.trans h g

theorem Changes.refl (p : Flight × State) : Changes p p := Relation.ReflTransGen.refl

theorem Changes.trans {p q r : Flight × State} (h : Changes p q) (g : Changes q r) : Changes p r :=
  Relation.ReflTransGen.trans h g

/-- A law that no change ends is one that several in turn do not end. -/
theorem Changes.keeps {L : Flight × State → Prop} (step : ∀ p q, Change p q → L p → L q) {p q : Flight × State}
    (h : Changes p q) (hp : L p) : L q := by
  induction h with
  | refl => exact hp
  | tail _ last ih => exact step _ _ last ih

/-- The line, the framer and the engine are as they were. -/
def Apart (s t : State) : Prop := t.line = s.line ∧ t.framer = s.framer ∧ t.engine = s.engine

theorem Move.apart {p q : Flight × State} (h : Move p q) : Apart p.2 q.2 := by
  cases h <;> exact ⟨rfl, rfl, rfl⟩

/-- No move touches the line, the framer or the engine. -/
theorem Moves.apart {p q : Flight × State} (h : Moves p q) : Apart p.2 q.2 := by
  induction h with
  | refl => exact ⟨rfl, rfl, rfl⟩
  | tail _ last ih =>
    obtain ⟨line, framer, engine⟩ := ih
    obtain ⟨line', framer', engine'⟩ := last.apart
    exact ⟨line'.trans line, framer'.trans framer, engine'.trans engine⟩

theorem Moves.flight_eq {p q : Flight × State} (h : Moves p q) : q.2.flight = p.2.flight := by
  simp only [State.flight, h.apart.2.2]

end Sys2Proof.Machine

/-! SUPPORT. The laws that look at no exchange in flight, each shown once for every move: the table's, the pool's, the urgent list's, the
scheduler's, the ranges and counts, the event queue's and the latch's. -/

namespace Sys2Proof.Machine

/-! ## Entries of a table -/

theorem table_set_getElem (v : Vector Entry 32) (i j : EntryIx) (e : Entry) : (v.set i e)[j] = if j = i then e else v[j] := by
  split
  · next h => rw [h, table_set_same]
  · next h => rw [table_set_other v i j e h]

theorem outbound_set_getElem (v : Vector (List BufIx) 32) (i j : EntryIx) (bs : List BufIx) :
    (v.set i bs)[j] = if j = i then bs else v[j] := by
  split
  · next h => rw [h, outbound_set_same]
  · next h => rw [outbound_set_other v i j bs h]

theorem buffers_set_getElem (v : Vector Buffer 24) (b c : BufIx) (x : Buffer) : (v.set b x)[c] = if c = b then x else v[c] := by
  split
  · next h => rw [h, buffers_set_same]
  · next h => rw [buffers_set_other v b c x h]

theorem EntryKept.refl (e : Entry) : EntryKept e e := ⟨fun h => ⟨h, rfl⟩, fun h => .inr ⟨h, rfl⟩, id⟩

theorem EntryKept.trans {e e' e'' : Entry} (h : EntryKept e e') (g : EntryKept e' e'') : EntryKept e e'' where
  occupied o := by
    obtain ⟨o', a'⟩ := g.occupied o
    obtain ⟨o'', a''⟩ := h.occupied o'
    exact ⟨o'', a'.trans a''⟩
  online o := by
    rcases g.online o with z | ⟨o', m'⟩
    · exact .inl z
    · rcases h.online o' with z | ⟨o'', m''⟩
      · exact .inl (m'.trans z)
      · exact .inr ⟨o'', m'.trans m''⟩
  counts c := g.counts (h.counts c)

/-- The urgent-listed flag is no part of what an entry keeps. -/
theorem EntryKept.listed (e : Entry) (b : Bool) : EntryKept e { e with urgentListed := b } :=
  ⟨fun h => ⟨h, rfl⟩, fun h => .inr ⟨h, rfl⟩, id⟩

theorem EntryKept.vacant (e : Entry) : EntryKept e Entry.vacant where
  occupied h := absurd rfl h
  online h := nomatch h
  counts _ := by simp [Entry.Counted, Entry.vacant]

/-! ## The two resets -/

/-- What LINE_RESET does to an entry: EMPTY and RETIRING ones become EMPTY, the others NEW or PARKED with their counts at 0 (R46). -/
theorem lineResetEntry_cases (sent : Bool) (e : Entry) :
    ((e.state = .empty ∨ e.state = .retiring) ∧ lineResetEntry sent e = Entry.vacant) ∨
    (e.state ≠ .empty ∧ e.state ≠ .retiring ∧ lineResetEntry sent e = { e with
      state := if e.state = .parked then .parked else .new
      miss := 0
      backoff := 0
      goodCount := 0
      failCount := 0
      dupCount := 0
      inFlight := false
      urgentListed := false
      nextNum := if sent then e.nextNum + 1#3 else e.nextNum }) := by
  cases h : e.state <;> simp [lineResetEntry, lineResetEntry.zeroCounters, h]

theorem EntryKept.lineReset (sent : Bool) (e : Entry) : EntryKept e (lineResetEntry sent e) := by
  rcases lineResetEntry_cases sent e with ⟨_, h⟩ | ⟨occupied, _, h⟩ <;> rw [h]
  · exact .vacant e
  · exact ⟨fun _ => ⟨occupied, rfl⟩, fun _ => .inl rfl, fun _ => by simp [Entry.Counted]⟩

theorem lineReset_entry (s : State) (i : EntryIx) :
    (lineReset s).table[i] = lineResetEntry (headSent s.pool.outbound[i] s) s.table[i] := by simp [lineReset]

theorem pinReset_entry (b : Bool) (s : State) (i : EntryIx) : (pinReset b s).table[i] = Entry.vacant := by
  simp [pinReset, State.powerOn]

theorem allFree_outbound (i : EntryIx) : Pool.allFree.outbound[i] = [] := by simp [Pool.allFree]

/-! ## The table's laws (R22, R29) -/

section
variable {s t : State} {i : EntryIx} {e : Entry}

theorem addressLaw_of_kept (h : ∀ j : EntryIx, EntryKept s.table[j] t.table[j]) (law : s.AddressLaw) : t.AddressLaw := by
  intro j k hj hk same
  obtain ⟨oj, aj⟩ := (h j).occupied hj
  obtain ⟨ok, ak⟩ := (h k).occupied hk
  exact law j k oj ok (aj ▸ ak ▸ same)

theorem onlineLaw_of_kept (h : ∀ j : EntryIx, EntryKept s.table[j] t.table[j]) (law : s.OnlineLaw) : t.OnlineLaw := by
  intro j online
  rcases (h j).online online with z | ⟨o, m⟩
  · exact z
  · exact m.trans (law j o)

/-- What is kept of the entry written is kept of the whole table. -/
theorem kept_set (h : EntryKept s.table[i] e) (written : t.table = s.table.set i e) (j : EntryIx) :
    EntryKept s.table[j] t.table[j] := by
  rw [written, table_set_getElem]
  split
  · next same => exact same ▸ h
  · exact .refl _

theorem addressLaw_occupy {probed : Option Nat} (h : Occupying probed s i e) (law : s.AddressLaw) :
    { s with table := s.table.set i e }.AddressLaw := by
  have fresh := (holderOf_none_iff _ _).1 h.fresh
  intro j k hj hk same
  simp only [table_set_getElem] at hj hk same
  by_cases ji : j = i <;> by_cases ki : k = i
  · exact ji.trans ki.symm
  · rw [if_neg ki] at hk
    rw [if_pos ji, if_neg ki] at same
    exact absurd same.symm (fresh k hk)
  · rw [if_neg ji] at hj
    rw [if_neg ji, if_pos ki] at same
    exact absurd same (fresh j hj)
  · rw [if_neg ji] at hj same
    rw [if_neg ki] at hk same
    exact law j k hj hk same

end

/-- Every move but a new entry keeps what an entry keeps. -/
theorem Move.kept {p q : Flight × State} (h : Move p q) :
    (∀ j : EntryIx, EntryKept p.2.table[j] q.2.table[j]) ∨
      ∃ i e, Occupying p.1.probed p.2 i e ∧ q.2 = { p.2 with table := p.2.table.set i e } := by
  cases h with
  | occupy f s i e h => exact .inr ⟨i, e, h, rfl⟩
  | edit f s i e x h => exact .inl (kept_set h.kept rfl)
  | listed f s i => exact .inl (kept_set (i := i) (.listed _ true) rfl)
  | unlisted f s i e h => exact .inl (kept_set h.kept rfl)
  | served f s i => exact .inl (kept_set (i := i) (.listed _ false) rfl)
  | vacate f s i => exact .inl (kept_set (i := i) (.vacant _) rfl)
  | retire f s i => exact .inl (kept_set (i := i) (.vacant _) rfl)
  | _ => exact .inl fun j => .refl _

theorem Cleared.kept {p q : Flight × State} (h : Cleared p q) (j : EntryIx) : EntryKept p.2.table[j] q.2.table[j] := by
  cases h with
  | pin f s =>
    have entry : (pinReset s.port.wide s).table[j] = Entry.vacant := pinReset_entry s.port.wide s j
    rw [entry]
    exact .vacant _
  | line f s =>
    have entry := lineReset_entry s j
    rw [entry]
    exact .lineReset _ _

theorem Control.table_eq {p q : Flight × State} (h : Control p q) : q.2.table = p.2.table := by
  cases h <;> rfl

/-- Every change but a new entry keeps what an entry keeps. -/
theorem Change.kept {p q : Flight × State} (h : Change p q) :
    (∀ j : EntryIx, EntryKept p.2.table[j] q.2.table[j]) ∨
      ∃ i e, Occupying p.1.probed p.2 i e ∧ q.2 = { p.2 with table := p.2.table.set i e } := by
  rcases h with move | control | cleared
  · exact move.kept
  · exact .inl fun j => control.table_eq ▸ .refl _
  · exact .inl cleared.kept

theorem Change.keeps_address {p q : Flight × State} (h : Change p q) (law : p.2.AddressLaw) : q.2.AddressLaw := by
  rcases h.kept with kept | ⟨i, e, occupying, eq⟩
  · exact addressLaw_of_kept kept law
  · exact eq ▸ addressLaw_occupy occupying law

theorem Change.keeps_online {p q : Flight × State} (h : Change p q) (law : p.2.OnlineLaw) : q.2.OnlineLaw := by
  rcases h.kept with kept | ⟨i, e, occupying, eq⟩
  · exact onlineLaw_of_kept kept law
  · rw [eq]
    intro j online
    simp only [table_set_getElem] at online ⊢
    split at online
    · next same => rw [if_pos same]; exact occupying.clear.1
    · next other => rw [if_neg other]; exact law j online

/-! ## The pool's law (R96) -/

/-- The lists of the other entries. -/
def others (i : EntryIx) (v : Vector (List BufIx) 32) : List BufIx :=
  (v.toList.take i.val).flatten ++ (v.toList.drop (i.val + 1)).flatten

theorem flatten_perm (i : EntryIx) (v : Vector (List BufIx) 32) : v.toList.flatten.Perm (v[i] ++ others i v) := by
  have parts : v.toList = v.toList.take i.val ++ v[i] :: v.toList.drop (i.val + 1) := by
    conv_lhs => rw [← List.take_append_drop i.val v.toList]
    rw [List.drop_eq_getElem_cons (by simp)]
    simp
  calc v.toList.flatten
      = (v.toList.take i.val).flatten ++ (v[i] ++ (v.toList.drop (i.val + 1)).flatten) := by
        conv_lhs => rw [parts]
        simp
    _ |>.Perm (v[i] ++ others i v) := by
        unfold others
        rw [← List.append_assoc, ← List.append_assoc]
        exact List.perm_append_comm.append_right _

theorem flatten_set_perm (i : EntryIx) (l : List BufIx) (v : Vector (List BufIx) 32) :
    (v.set i l).toList.flatten.Perm (l ++ others i v) := by
  have h := flatten_perm i (v.set i l)
  have rest : others i (v.set i l) = others i v := by
    simp [others, Vector.toList_set, List.take_set_of_le, List.drop_set]
  rwa [outbound_set_same, rest] at h

/-- The holders other than the outbound lists. -/
def Pool.slots (p : Pool) : List BufIx :=
  p.staged.toList ++ p.reserved.toList ++ p.readPort.toList ++ p.inbound ++ p.broadcast

theorem held_eq (p : Pool) : p.held = p.slots ++ p.outbound.toList.flatten := rfl

theorem held_perm (i : EntryIx) (p : Pool) : p.held.Perm (p.slots ++ (p.outbound[i] ++ others i p.outbound)) :=
  (flatten_perm i p.outbound).append_left _

theorem held_set_perm (i : EntryIx) (l : List BufIx) (p : Pool) :
    (p.slots ++ (p.outbound.set i l).toList.flatten).Perm (p.slots ++ (l ++ others i p.outbound)) :=
  (flatten_set_perm i l p.outbound).append_left _

/-- A list that loses messages brings no buffer a second holder. -/
theorem nodup_set_sublist {i : EntryIx} {l : List BufIx} {p : Pool} (h : l.Sublist p.outbound[i]) (law : p.held.Nodup) :
    { p with outbound := p.outbound.set i l }.held.Nodup := by
  have all := (held_perm i p).nodup_iff.1 law
  exact (held_set_perm i l p).nodup_iff.2 (all.sublist ((h.append_right _).append_left _))

theorem nodup_enqueue {i : EntryIx} {b : BufIx} {p : Pool} (staged : p.staged = some b) (law : p.held.Nodup) :
    { p with staged := none, outbound := p.outbound.set i (p.outbound[i] ++ [b]) }.held.Nodup := by
  have all := (held_perm i p).nodup_iff.1 law
  refine (held_set_perm i _ { p with staged := none }).nodup_iff.2 (List.Perm.nodup_iff ?_ |>.1 all)
  refine List.perm_iff_count.2 fun c => ?_
  simp only [Pool.slots, staged, Option.toList_some, Option.toList_none, List.count_append, List.count_nil]
  omega

theorem Move.keeps_pool {p q : Flight × State} (h : Move p q) (law : p.2.PoolLaw) : q.2.PoolLaw := by
  cases h with
  | pool f s p x h => exact h.nodup law
  | vacate f s i => exact nodup_set_sublist (List.nil_sublist _) law
  | retire f s i => exact nodup_set_sublist (List.nil_sublist _) law
  | enqueue f s i b y staged => exact nodup_enqueue staged law
  | enqueueAll f s b y staged =>
    refine List.Perm.nodup_iff (List.perm_iff_count.2 fun c => ?_) |>.1 law
    simp only [Pool.held, staged, Option.toList_some, Option.toList_none, List.count_append, List.count_nil]
    omega
  | depart f s i b => exact nodup_set_sublist List.erase_sublist law
  | departAll f s b n =>
    exact law.sublist (List.erase_sublist.append_left _ |>.append_right _)
  | _ => exact law

theorem Change.keeps_pool {p q : Flight × State} (h : Change p q) (law : p.2.PoolLaw) : q.2.PoolLaw := by
  rcases h with move | control | cleared
  · exact move.keeps_pool law
  · cases control <;> exact law
  · cases cleared with
    | pin f s => exact (congrArg List.Nodup allFree_held).mpr .nil
    | line f s => exact (congrArg List.Nodup allFree_held).mpr .nil

end Sys2Proof.Machine

/-! SUPPORT. The laws of the scheduler's two records, of the ranges and counts, and of the event queue and the latch, each shown once
for every move. -/

namespace Sys2Proof.Machine

/-! ## The urgent list (R74, R91 to R93) -/

/-- The urgent list's law after an entry has been written and the list replaced: the entry's own clauses, and the others' kept. -/
theorem urgentLaw_of_set {s t : State} {i : EntryIx} {e : Entry} (written : t.table = s.table.set i e)
    (nodup : t.sched.urgent.Nodup) (room : t.sched.urgent.length ≤ 8)
    (own : e.urgentListed = true ↔ i ∈ t.sched.urgent) (served : i ∈ t.sched.urgent → e.state.Served)
    (others : ∀ j, j ≠ i → (j ∈ t.sched.urgent ↔ j ∈ s.sched.urgent)) (law : s.UrgentLaw) : t.UrgentLaw := by
  obtain ⟨_, _, flags, states⟩ := law
  refine ⟨nodup, room, fun j => ?_, fun j listed => ?_⟩
  · rw [written, table_set_getElem]
    split
    · next same => exact same ▸ own
    · next other => exact (flags j).trans (others j other).symm
  · rw [written, table_set_getElem]
    split
    · next same => exact served (same ▸ listed)
    · next other => exact states j ((others j other).1 listed)

theorem Move.keeps_urgent {p q : Flight × State} (h : Move p q) (law : p.2.UrgentLaw) : q.2.UrgentLaw := by
  have ⟨nodup, room, flags, states⟩ := law
  cases h with
  | sched f s p q h =>
    have same := h.urgent
    unfold State.UrgentLaw
    simp only [same]
    exact law
  | edit f s i e x h =>
    refine urgentLaw_of_set (i := i) (e := e) rfl nodup room (h.listed ▸ flags i) (fun listed => ?_) (fun _ _ => .rfl) law
    obtain ⟨occupied, notParked, notRetiring⟩ := states i listed
    refine ⟨mt h.empty.1 occupied, fun parked => notParked ?_, fun retiring => notRetiring ?_⟩
    · exact (h.idle (.inl parked)) ▸ parked
    · exact (h.idle (.inr retiring)) ▸ retiring
  | listed f s i new less served =>
    refine urgentLaw_of_set (s := s) (i := i) rfl ?_ ?_ ?_ (fun _ => served) (fun j other => ?_) law
    · exact nodup.append (List.nodup_singleton i) (List.disjoint_singleton.2 new)
    · rw [listUrgent_urgent, List.length_append]
      exact less
    · simp
    · simp [other]
  | unlisted f s i e h =>
    refine urgentLaw_of_set (i := i) (e := e) rfl (nodup.filter _) ((List.length_filter_le _ _).trans room) ?_ ?_ (fun j other => ?_) law
    · simp [h.listed]
    · simp
    · simp [other]
  | served f s i rest head =>
    rw [head] at nodup room
    obtain ⟨gone, nodup⟩ := List.nodup_cons.1 nodup
    refine urgentLaw_of_set (i := i) rfl nodup ((Nat.le_succ _).trans room) ?_ (fun listed => absurd listed gone) (fun j other => ?_) law
    · simp [gone]
    · simp [head, other]
  | skipped f s i rest head empty => exact absurd empty (states i (by simp [head])).1
  | occupy f s i e h =>
    have unlisted : i ∉ s.sched.urgent := fun listed => (states i listed).1 h.vacant
    exact urgentLaw_of_set (i := i) (e := e) rfl nodup room (by simp [h.flags.2, unlisted]) (fun _ => h.served) (fun _ _ => .rfl) law
  | vacate f s i idle unlisted =>
    exact urgentLaw_of_set (i := i) (e := Entry.vacant) rfl nodup room (by simp [Entry.vacant, unlisted]) (fun listed => absurd listed unlisted)
      (fun _ _ => .rfl) law
  | retire f s i retiring =>
    have unlisted : i ∉ s.sched.urgent := fun listed => (states i listed).2.2 retiring
    exact urgentLaw_of_set (i := i) (e := Entry.vacant) rfl nodup room (by simp [Entry.vacant, unlisted]) (fun listed => absurd listed unlisted)
      (fun _ _ => .rfl) law
  | _ => exact law

/-- With no entry listed and no flag set the law holds. -/
theorem urgentLaw_of_none {s : State} (none : s.sched.urgent = []) (clear : ∀ i : EntryIx, s.table[i].urgentListed = false) :
    s.UrgentLaw := by
  refine ⟨none ▸ .nil, none ▸ Nat.zero_le _, fun i => ?_, fun i listed => ?_⟩
  · rw [clear i, none]
    simp
  · simp [none] at listed

theorem lineReset_flags (s : State) (i : EntryIx) :
    (lineReset s).table[i].urgentListed = false ∧ (lineReset s).table[i].inFlight = false ∧
      (lineReset s).table[i].state ≠ .retiring := by
  rw [lineReset_entry]
  rcases lineResetEntry_cases (headSent s.pool.outbound[i] s) s.table[i] with ⟨_, h⟩ | ⟨_, _, h⟩ <;> rw [h]
  · exact ⟨rfl, rfl, nofun⟩
  · refine ⟨rfl, rfl, ?_⟩
    dsimp only
    split <;> nofun

theorem Change.keeps_urgent {p q : Flight × State} (h : Change p q) (law : p.2.UrgentLaw) : q.2.UrgentLaw := by
  rcases h with move | control | cleared
  · exact move.keeps_urgent law
  · cases control <;> exact law
  · cases cleared with
    | pin f s => exact urgentLaw_of_none rfl fun i => congrArg Entry.urgentListed (pinReset_entry s.port.wide s i)
    | line f s => exact urgentLaw_of_none rfl fun i => (lineReset_flags s i).1

/-! ## The scheduler's record (R74, R82, R87, R90) -/

theorem Move.keeps_scheduler {p q : Flight × State} (h : Move p q) (law : p.2.SchedulerLaw) : q.2.SchedulerLaw := by
  cases h with
  | sched f s p q h => exact h.law law
  | _ => exact law

theorem Change.keeps_scheduler {p q : Flight × State} (h : Change p q) (law : p.2.SchedulerLaw) : q.2.SchedulerLaw := by
  rcases h with move | control | cleared
  · exact move.keeps_scheduler law
  · cases control <;> exact law
  · cases cleared with
    | pin f s => exact ⟨(by decide : 1 ≤ 64), Nat.le_refl 64, Nat.zero_le _, nofun, nofun, fun _ => (by decide : 0 < 64)⟩
    | line f s => exact ⟨law.1, law.2.1, Nat.zero_le _, nofun, nofun, fun _ => law.1⟩

/-! ## Ranges and counts -/

theorem Move.keeps_range {p q : Flight × State} (h : Move p q) (law : p.2.RangeLaw) : q.2.RangeLaw := by
  cases h with
  | sched f s p q h => exact h.range law
  | events f s q h =>
    obtain ⟨retries, lost, recover, busy, backoff, maxq, reserve, pace, ring, inq, filter, line⟩ := law
    exact ⟨retries, lost, recover, busy, backoff, maxq, reserve, pace, ring, inq, h.filter filter, line⟩
  | _ => exact law

theorem Change.keeps_range {p q : Flight × State} (h : Change p q) (law : p.2.RangeLaw) : q.2.RangeLaw := by
  rcases h with move | control | cleared
  · exact move.keeps_range law
  · cases control with
    | line f s l counts range => exact range law
    | _ => exact law
  · cases cleared with
    | pin f s =>
      have start (b : Bool) : (State.powerOn b).RangeLaw := by decide +revert
      exact start s.port.wide
    | line f s => exact law

theorem countedTable_of_kept {s t : State} (h : ∀ j : EntryIx, EntryKept s.table[j] t.table[j])
    (law : ∀ i : EntryIx, s.table[i].Counted) (i : EntryIx) : t.table[i].Counted := (h i).counts (law i)

theorem Change.keeps_countedTable {p q : Flight × State} (h : Change p q) (law : ∀ i : EntryIx, p.2.table[i].Counted) (i : EntryIx) :
    q.2.table[i].Counted := by
  rcases h.kept with kept | ⟨j, e, occupying, eq⟩
  · exact (kept i).counts (law i)
  · obtain ⟨miss, good, fail, dup⟩ := occupying.clear
    rw [eq]
    simp only [table_set_getElem]
    split
    · simp [Entry.Counted, miss, good, fail, dup]
    · exact law i

theorem Change.keeps_counters {p q : Flight × State} (h : Change p q) (law : p.2.CounterLaw) : q.2.CounterLaw := by
  obtain ⟨entries, noise, stray, cont, lost, latch⟩ := law
  refine ⟨h.keeps_countedTable entries, ?_⟩
  rcases h with move | control | cleared
  · cases move with
    | events f s q h => exact ⟨noise, stray, cont, h.count lost, latch⟩
    | port f s p h => exact ⟨noise, stray, cont, lost, h.count latch⟩
    | _ => exact ⟨noise, stray, cont, lost, latch⟩
  · cases control with
    | line f s l counts =>
      obtain ⟨noise, stray, cont⟩ := counts ⟨noise, stray, cont⟩
      exact ⟨noise, stray, cont, lost, latch⟩
    | _ => exact ⟨noise, stray, cont, lost, latch⟩
  · cases cleared with
    | pin f s => exact ⟨Nat.zero_le _, Nat.zero_le _, Nat.zero_le _, Nat.zero_le _, Nat.zero_le _⟩
    | line f s => exact ⟨Nat.zero_le _, Nat.zero_le _, Nat.zero_le _, Nat.zero_le _, Nat.zero_le _⟩

/-! ## The event queue and the latch (R169, R174, R181) -/

theorem Change.keeps_events {p q : Flight × State} (h : Change p q) (law : p.2.EventLaw) : q.2.EventLaw := by
  rcases h with move | control | cleared
  · cases move with
    | events f s q h => exact h.law law
    | _ => exact law
  · cases control <;> exact law
  · cases cleared with
    | pin f s => exact ⟨Nat.zero_le _, fun h => absurd rfl h⟩
    | line f s => exact ⟨(by decide : 1 ≤ 32), fun h => absurd rfl h⟩

/-- No change touches the queue of commands or the bus width, or turns the clock back. -/
theorem Change.forward {p q : Flight × State} (h : Change p q) :
    q.2.pending = p.2.pending ∧ p.2.now ≤ q.2.now ∧ q.2.port.wide = p.2.port.wide := by
  rcases h with move | control | cleared
  · cases move with
    | port f s p h => exact ⟨rfl, Nat.le_refl _, h.wide⟩
    | _ => exact ⟨rfl, Nat.le_refl _, rfl⟩
  · cases control with
    | clock f s n later => exact ⟨rfl, later, rfl⟩
    | _ => exact ⟨rfl, Nat.le_refl _, rfl⟩
  · cases cleared with
    | pin f s => exact ⟨rfl, Nat.le_of_eq rfl, rfl⟩
    | line f s =>
      refine ⟨?_, Nat.le_of_eq ?_, ?_⟩ <;> simp only [lineReset]

theorem Change.keeps_record {p q : Flight × State} (h : Change p q) (law : p.2.RecordLaw) : q.2.RecordLaw := by
  rcases h with move | control | cleared
  · obtain ⟨_, _, engine⟩ := move.apart
    unfold State.RecordLaw
    rw [engine]
    exact law
  · cases control with
    | engine f s e record => exact record law
    | _ => exact law
  · cases cleared <;> exact ⟨fun _ => rfl, fun _ => rfl⟩

theorem Change.keeps_latch {p q : Flight × State} (h : Change p q) (law : p.2.LatchLaw) : q.2.LatchLaw := by
  rcases h with move | control | cleared
  · cases move with
    | port f s p h => exact h.law law
    | _ => exact law
  · cases control <;> exact law
  · cases cleared with
    | pin f s => exact ⟨nofun, nofun⟩
    | line f s => exact ⟨fun h => absurd rfl h, nofun⟩

end Sys2Proof.Machine

/-! SUPPORT. The laws that follow the exchange in flight, each shown once for every move: the target's, the reservation's, the sweep's
and those of the messages. -/

namespace Sys2Proof.Machine

/-! ## The target (R22, R28, R39, R48) -/

/-- The law of the target, for the target that an exchange is held to have. -/
def TableFor (x : Option EntryIx) (s : State) : Prop :=
  (∀ i : EntryIx, s.table[i].inFlight = true ↔ x = some i) ∧
  (∀ i : EntryIx, x = some i → s.table[i].state ≠ .empty) ∧
  (∀ i : EntryIx, s.table[i].state = .retiring → x = some i) ∧
  (∀ i : EntryIx, s.table[i].state = .empty → s.table[i] = Entry.vacant ∧ s.pool.outbound[i] = [])

theorem target_eq (s : State) : s.target = s.flight.target := by
  cases h : s.engine.record with
  | none => simp [State.target, State.flight, h]
  | some r => cases hx : r.exch <;> simp [State.target, State.flight, h, hx, Exchange.flight, Exchange.targetEntry]

theorem targetLaw_iff (s : State) : s.TargetLaw ↔ s.RecordLaw ∧ TableFor s.flight.target s := by
  unfold State.TargetLaw TableFor
  rw [target_eq]

/-- The law after one entry has been written: its own clauses, with the other entries' flags clear of both targets. -/
theorem tableFor_of_set {s t : State} {i : EntryIx} {e : Entry} {x y : Option EntryIx} (written : t.table = s.table.set i e)
    (lists : ∀ j, s.table[j].state = .empty → j ≠ i → s.pool.outbound[j] = [] → t.pool.outbound[j] = [])
    (flag : e.inFlight = true ↔ y = some i) (occupied : y = some i → e.state ≠ .empty)
    (retiring : e.state = .retiring → y = some i) (empty : e.state = .empty → e = Entry.vacant ∧ t.pool.outbound[i] = [])
    (others : ∀ j, j ≠ i → (x = some j ↔ y = some j)) (law : TableFor x s) : TableFor y t := by
  obtain ⟨flags, busy, leaving, blank⟩ := law
  refine ⟨fun j => ?_, fun j => ?_, fun j => ?_, fun j => ?_⟩ <;> rw [written, table_set_getElem] <;> split
  · next same => exact same ▸ flag
  · next other => exact (flags j).trans (others j other)
  · next same => exact same ▸ occupied
  · next other => exact fun h => busy j ((others j other).2 h)
  · next same => exact same ▸ retiring
  · next other => exact fun h => (others j other).1 (leaving j h)
  · next same => exact same ▸ empty
  · next other => exact fun h => ⟨(blank j h).1, lists j h other (blank j h).2⟩

theorem tableFor_edit {s : State} {i : EntryIx} {e : Entry} {x y : Option EntryIx} (h : EntryEdit i x y s.table[i] e)
    (law : TableFor x s) : TableFor y { s with table := s.table.set i e } := by
  have ⟨flags, busy, leaving, _⟩ := law
  have stays : e.state ≠ .empty := fun gone => h.occupied.elim (fun o => o (h.empty.1 gone)) fun target =>
    busy i target (h.empty.1 gone)
  have wasRetiring : e.state = .retiring → s.table[i].state = .retiring := fun r => (h.idle (.inr r)).symm.trans r
  have none_other : x = some i ∨ x = none → ∀ j, j ≠ i → (x = some j ↔ none = some j) := by
    rintro (rfl | rfl) j other
    · simpa using fun same : i = j => other same.symm
    · simp
  cases h.flag with
  | same x flag =>
    exact tableFor_of_set (i := i) (e := e) rfl (fun _ _ _ => id) (flag ▸ flags i) (fun _ => stays) (fun r => leaving i (wasRetiring r))
      (fun gone => absurd gone stays) (fun _ _ => .rfl) law
  | cleared x target flag staying =>
    exact tableFor_of_set (i := i) (e := e) rfl (fun _ _ _ => id) (by simp [flag]) (fun _ => stays)
      (fun r => absurd (wasRetiring r) staying) (fun gone => absurd gone stays) (none_other target) law
  | set flag =>
    refine tableFor_of_set (i := i) (e := e) rfl (fun _ _ _ => id) (by simp [flag]) (fun _ => stays) (fun _ => rfl)
      (fun gone => absurd gone stays) (fun j other => ?_) law
    simpa using fun same : i = j => other same.symm
  | gone empty => exact absurd empty (busy i rfl)

/-- The vacated entry holds nothing and its list is empty. -/
theorem tableFor_vacate {s : State} {i : EntryIx} {x y : Option EntryIx} (ended : y ≠ some i)
    (others : ∀ j, j ≠ i → (x = some j ↔ y = some j)) (law : TableFor x s) : TableFor y (vacate i s) :=
  tableFor_of_set (s := s) (i := i) (e := Entry.vacant) (t := vacate i s) rfl
    (fun j _ other list => (outbound_set_other s.pool.outbound i j [] other).trans list) (by simpa [Entry.vacant] using ended) (fun same => absurd same ended)
    nofun (fun _ => ⟨rfl, outbound_set_same _ _ _⟩) others law

theorem Move.keeps_target {p q : Flight × State} (h : Move p q) (law : TableFor p.1.target p.2) : TableFor q.1.target q.2 := by
  have ⟨flags, busy, leaving, blank⟩ := law
  cases h with
  | edit f s i e x h => exact tableFor_edit h law
  | listed f s i new room served =>
    exact tableFor_of_set (s := s) (i := i) (e := { s.table[i] with urgentListed := true }) rfl (fun _ _ _ => id) (flags i)
      (busy i) (leaving i) (fun gone => absurd gone served.1) (fun _ _ => .rfl) law
  | unlisted f s i e h =>
    exact tableFor_of_set (s := s) (i := i) (e := e) rfl (fun _ _ _ => id) (h.flag ▸ flags i) (fun _ => h.stays)
      (fun r => (h.retiring r).elim (leaving i) (flags i).1) (fun gone => absurd gone h.stays) (fun _ _ => .rfl) law
  | served f s i rest head occupied =>
    exact tableFor_of_set (s := s) (i := i) (e := { s.table[i] with urgentListed := false }) rfl (fun _ _ _ => id) (flags i)
      (busy i) (leaving i) (fun gone => absurd gone occupied) (fun _ _ => .rfl) law
  | occupy f s i e h =>
    have unaimed : f.target ≠ some i := fun target => busy i target h.vacant
    exact tableFor_of_set (s := s) (i := i) (e := e) rfl (fun _ _ _ => id) (by simp [h.flags.1, unaimed])
      (fun target => absurd target unaimed) (fun r => absurd r h.served.2.2) (fun gone => absurd gone h.served.1) (fun _ _ => .rfl) law
  | vacate f s i idle =>
    exact tableFor_vacate (mt (flags i).2 (Bool.eq_false_iff.1 idle)) (fun _ _ => .rfl) law
  | retire f s i retiring =>
    have target : f.target = some i := leaving i retiring
    refine tableFor_vacate (x := f.target) nofun (fun j other => ?_) law
    simpa [target] using fun same : i = j => other same.symm
  | enqueue f s i b y staged mark sent occupied =>
    refine ⟨flags, busy, leaving, fun j gone => ⟨(blank j gone).1, ?_⟩⟩
    have other : j ≠ i := fun same => occupied (same ▸ gone)
    exact (outbound_set_other _ _ _ _ other).trans (blank j gone).2
  | depart f s i b =>
    refine ⟨flags, busy, leaving, fun j gone => ⟨(blank j gone).1, ?_⟩⟩
    rw [withOutbound_outbound, outbound_set_getElem]
    split
    · next same =>
      subst same
      exact congrArg (·.erase b) (blank j gone).2
    · exact (blank j gone).2
  | pool f s p x h =>
    refine ⟨flags, busy, leaving, fun j gone => ⟨(blank j gone).1, ?_⟩⟩
    exact (congrArg (·[j]) h.outbound).trans (blank j gone).2
  | _ => exact law

theorem lineReset_occupied {s : State} {i : EntryIx} (h : (lineReset s).table[i].state = .empty) :
    (lineReset s).table[i] = Entry.vacant := by
  rw [lineReset_entry] at h ⊢
  rcases lineResetEntry_cases (headSent s.pool.outbound[i] s) s.table[i] with ⟨_, g⟩ | ⟨_, _, g⟩
  · exact g
  · rw [g] at h
    dsimp only at h
    split at h <;> cases h

theorem Change.keeps_target {p q : Flight × State} (h : Change p q) (law : TableFor p.1.target p.2) : TableFor q.1.target q.2 := by
  rcases h with move | control | cleared
  · exact move.keeps_target law
  · cases control <;> exact law
  · cases cleared with
    | pin f s =>
      have entry := pinReset_entry s.port.wide s
      refine ⟨fun i => ?_, nofun, fun i => ?_, fun i _ => ⟨entry i, allFree_outbound i⟩⟩ <;> rw [entry i] <;> simp [Entry.vacant]
    | line f s =>
      refine ⟨fun i => ?_, nofun, fun i r => ?_, fun i gone => ⟨lineReset_occupied gone, allFree_outbound i⟩⟩
      · simp only [(lineReset_flags s i).2.1]
        simp
      · exact absurd r (lineReset_flags s i).2.2

/-! ## The reservation (R96, R119) -/

theorem replyBuffer_eq (s : State) : s.replyBuffer = s.flight.reply := by
  cases h : s.engine.record with
  | none => simp [State.replyBuffer, State.flight, h]
  | some r => cases hx : r.exch <;> simp [State.replyBuffer, State.flight, h, hx, Exchange.flight]

theorem Change.keeps_reservation {p q : Flight × State} (h : Change p q) (law : p.2.pool.reserved = p.1.reply) :
    q.2.pool.reserved = q.1.reply := by
  rcases h with move | control | cleared
  · cases move with
    | pool f s p x h => exact h.reply law
    | _ => exact law
  · cases control <;> exact law
  · cases cleared <;> rfl

/-! ## The sweep (R22, R138) -/

theorem probed_eq (s : State) : s.probed = s.flight.probed := by
  cases h : s.engine.record with
  | none => simp [State.probed, State.flight, h]
  | some r => cases hx : r.exch <;> simp [State.probed, State.flight, h, hx, Exchange.flight]

/-- Every occupied entry's address is a station address (R22). -/
def Stations (s : State) : Prop := ∀ i : EntryIx, s.table[i].state ≠ .empty → 1 ≤ s.table[i].address ∧ s.table[i].address ≤ 126

theorem sweepLaw_iff (s : State) : s.SweepLaw ↔ s.RecordLaw ∧ s.sweep.Lawful s.flight.probed ∧ Stations s := by
  unfold State.SweepLaw Sweep.Lawful Stations
  rw [probed_eq]
  tauto

theorem Change.keeps_sweep {p q : Flight × State} (h : Change p q) (law : p.2.sweep.Lawful p.1.probed ∧ Stations p.2) :
    q.2.sweep.Lawful q.1.probed ∧ Stations q.2 := by
  obtain ⟨lawful, stations⟩ := law
  constructor
  · rcases h with move | control | cleared
    · cases move with
      | sweep f s w a h => exact h lawful
      | _ => exact lawful
    · cases control <;> exact lawful
    · cases cleared <;> exact ⟨fun h => absurd rfl h, nofun, nofun, nofun⟩
  · intro i occupied
    rcases h.kept with kept | ⟨j, e, occupying, eq⟩
    · obtain ⟨o, a⟩ := (kept i).occupied occupied
      exact a ▸ stations i o
    · rw [eq] at occupied ⊢
      simp only [table_set_getElem] at occupied ⊢
      split
      · rcases occupying.station with inRange | probed
        · exact inRange
        · obtain ⟨range, cursor, outstanding, _⟩ := lawful
          have flagged := outstanding (by simp [probed])
          obtain ⟨running, same⟩ := cursor flagged
          obtain ⟨low, le, high⟩ := range running
          rw [Option.some.inj (probed.symm.trans same)]
          exact ⟨low, le.trans high⟩
      · next other =>
        rw [if_neg other] at occupied
        exact stations i occupied

/-! ## The messages (R96, R104, R105, R111) -/

section
variable {p : Pool} (law : p.held.Nodup)
include law

theorem outbound_nodup (i : EntryIx) : p.outbound[i].Nodup :=
  ((List.nodup_append.1 ((List.nodup_append.1 ((held_perm i p).nodup_iff.1 law)).2.1)).1)

theorem broadcast_nodup : p.broadcast.Nodup := (List.nodup_append.1 (List.nodup_append.1 law).1).2.1

theorem outbound_unique {i j : EntryIx} {b : BufIx} (hi : b ∈ p.outbound[i]) (hj : b ∈ p.outbound[j]) : i = j := by
  by_contra other
  have apart := (List.nodup_append.1 ((List.nodup_append.1 ((held_perm i p).nodup_iff.1 law)).2.1)).2.2
  have member : p.outbound[j] ∈ p.outbound.toList.take i.val ∨ p.outbound[j] ∈ p.outbound.toList.drop (i.val + 1) := by
    rcases Nat.lt_or_gt_of_ne (fun same : i.val = j.val => other (Fin.ext same)) with lt | gt
    · exact .inr (List.mem_drop_iff_getElem.2 ⟨j.val - (i.val + 1), by simp; omega, by simp [Nat.add_sub_cancel' (Nat.succ_le_of_lt lt)]⟩)
    · exact .inl (List.mem_take_iff_getElem.2 ⟨j.val, by simp; omega, by simp⟩)
  refine apart b hi b ?_ rfl
  simp only [others, List.mem_append, List.mem_flatten]
  exact member.imp (fun m => ⟨_, m, hj⟩) fun m => ⟨_, m, hj⟩

theorem outbound_not_slot {i : EntryIx} {b : BufIx} (h : b ∈ p.outbound[i]) : b ∉ p.slots := fun slot =>
  (List.nodup_append.1 ((held_perm i p).nodup_iff.1 law)).2.2 b slot b (List.mem_append_left _ h) rfl

theorem outbound_not_broadcast {i : EntryIx} {b : BufIx} (h : b ∈ p.outbound[i]) : b ∉ p.broadcast := fun listed =>
  outbound_not_slot law h (List.mem_append_right _ listed)

theorem staged_not_outbound {i : EntryIx} {b : BufIx} (staged : p.staged = some b) : b ∉ p.outbound[i] := fun listed =>
  outbound_not_slot law listed (by simp [Pool.slots, staged])

theorem staged_not_broadcast {b : BufIx} (staged : p.staged = some b) : b ∉ p.broadcast := fun listed =>
  (List.nodup_append.1 (List.nodup_append.1 law).1).2.2 b (by simp [staged]) b listed rfl

end

theorem Carried.Heads.mem {p : Pool} {c : Carried} (h : c.Heads p) :
    (∃ i, c = .toEntry i c.buffer ∧ c.buffer ∈ p.outbound[i]) ∨ c = .toAll c.buffer ∧ c.buffer ∈ p.broadcast := by
  cases c with
  | toEntry i b => exact .inl ⟨i, rfl, List.mem_of_mem_head? h⟩
  | toAll b => exact .inr ⟨rfl, List.mem_of_mem_head? h⟩

/-- A buffer that heads a list stands on no other. -/
theorem Carried.Heads.eq_toEntry {p : Pool} {c : Carried} (law : p.held.Nodup) (h : c.Heads p) {i : EntryIx}
    (listed : c.buffer ∈ p.outbound[i]) : c = .toEntry i c.buffer := by
  rcases h.mem with ⟨j, eq, mem⟩ | ⟨_, mem⟩
  · exact outbound_unique law mem listed ▸ eq
  · exact absurd mem (outbound_not_broadcast law listed)

theorem Carried.Heads.eq_toAll {p : Pool} {c : Carried} (law : p.held.Nodup) (h : c.Heads p) (listed : c.buffer ∈ p.broadcast) :
    c = .toAll c.buffer := by
  rcases h.mem with ⟨j, _, mem⟩ | ⟨eq, _⟩
  · exact absurd listed (outbound_not_broadcast law mem)
  · exact eq

theorem head_not_mem_tail {l : List BufIx} {b : BufIx} (nodup : l.Nodup) (head : l.head? = some b) : b ∉ l.tail := by
  cases l with
  | nil => nofun
  | cons a rest =>
    obtain rfl : a = b := Option.some.inj head
    exact (List.nodup_cons.1 nodup).1

/-- A buffer that heads its list stands behind the head of none. -/
theorem Carried.Heads.not_tail {p : Pool} {c : Carried} (law : p.held.Nodup) (h : c.Heads p) :
    (∀ i : EntryIx, c.buffer ∉ p.outbound[i].tail) ∧ c.buffer ∉ p.broadcast.tail := by
  constructor
  · intro i behind
    have listed := List.mem_of_mem_tail behind
    have entry := h.eq_toEntry law listed
    rw [entry] at h
    exact head_not_mem_tail (outbound_nodup law i) h behind
  · intro behind
    have all := h.eq_toAll law (List.mem_of_mem_tail behind)
    rw [all] at h
    exact head_not_mem_tail (broadcast_nodup law) h behind

/-- A message that waits behind the head: QUEUED, and never transmitted (R104). -/
def Buffer.Waiting (b : Buffer) : Prop := b.mark = .queued ∧ b.transmitted = false

/-- The laws of the message lists, for the message that an exchange is held to carry: the lists' capacities, what stands behind the
heads, that only the message carried is marked, and that it heads its list, marked, in an exchange to its entry. -/
structure MessagesFor (f : Flight) (s : State) : Prop where
  short : ∀ i : EntryIx, s.pool.outbound[i].length ≤ 8
  few : s.pool.broadcast.length ≤ 4
  waiting : ∀ i : EntryIx, ∀ b ∈ s.pool.outbound[i].tail, s.pool.buffers[b].Waiting
  waitingAll : ∀ b ∈ s.pool.broadcast.tail, s.pool.buffers[b].Waiting
  marked : ∀ i : EntryIx, ∀ b ∈ s.pool.outbound[i], s.pool.buffers[b].mark ≠ .queued → f.message = some (.toEntry i b)
  markedAll : ∀ b ∈ s.pool.broadcast, s.pool.buffers[b].mark ≠ .queued → f.message = some (.toAll b)
  heads : ∀ c, f.message = some c → c.Heads s.pool ∧ s.pool.buffers[c.buffer].mark ≠ .queued
  paired : ∀ i b, f.message = some (.toEntry i b) → f.target = some i

theorem heads_toEntry {i : EntryIx} {b : BufIx} {p : Pool} : (Carried.toEntry i b).Heads p ↔ p.outbound[i].head? = some b := .rfl

theorem heads_buffers (c : Carried) (p : Pool) (v : Vector Buffer 24) : c.Heads { p with buffers := v } ↔ c.Heads p := by
  cases c <;> rfl

section
variable {f : Flight} {s : State} {b : BufIx} {y : Buffer} {m n : Option Carried}

/-- Behind the heads a marking writes only messages that wait, or that it makes wait. -/
theorem marking_waiting (pool : s.pool.held.Nodup) (law : MessagesFor f s) (message : f.message = m) (h : Marking s.pool b y m n)
    {c : BufIx} (behind : (∃ i : EntryIx, c ∈ s.pool.outbound[i].tail) ∨ c ∈ s.pool.broadcast.tail)
    (was : s.pool.buffers[c].Waiting) : (s.pool.buffers.set b y)[c].Waiting := by
  rw [buffers_set_getElem]
  split
  · next same =>
    subst same
    have head (k : Carried) (buffer : k.buffer = c) (heads : k.Heads s.pool) : y.Waiting := by
      obtain ⟨entries, all⟩ := heads.not_tail pool
      rw [buffer] at entries all
      exact behind.elim (fun ⟨i, t⟩ => absurd t (entries i)) fun t => absurd t all
    cases h with
    | start k buffer heads => exact head k buffer heads
    | pending m marked => exact absurd was.1 marked
    | clear k buffer mark sent => exact ⟨mark, sent.trans was.2⟩
    | sent k buffer mark => exact head k buffer (law.heads k message).1
  · exact was

/-- What a marking leaves marked is the message then carried. -/
theorem marking_marked (message : f.message = m) (h : Marking s.pool b y m n) {k : Carried}
    (was : s.pool.buffers[k.buffer].mark ≠ .queued → f.message = some k)
    (own : ∀ k', k'.buffer = k.buffer → k'.Heads s.pool → k' = k) (marked : (s.pool.buffers.set b y)[k.buffer].mark ≠ .queued) :
    n = some k := by
  rw [buffers_set_getElem] at marked
  split at marked
  · next same =>
    cases h with
    | start k' buffer heads => exact congrArg some (own k' (buffer.trans same.symm) heads)
    | pending m marked' => exact message.symm.trans (was (same ▸ marked'))
    | clear k' buffer mark => exact absurd mark marked
    | sent k' buffer mark => exact message.symm.trans (was (same ▸ mark ▸ marked))
  · next other =>
    have carried := message.symm.trans (was marked)
    cases h with
    | start => cases carried
    | pending => exact carried
    | clear k' buffer =>
      cases carried
      exact absurd buffer other
    | sent => exact carried

/-- The message then carried heads its list, marked. -/
theorem marking_heads (law : MessagesFor f s) (message : f.message = m) (h : Marking s.pool b y m n) {k : Carried}
    (carried : n = some k) : k.Heads s.pool ∧ (s.pool.buffers.set b y)[k.buffer].mark ≠ .queued := by
  rw [buffers_set_getElem]
  cases h with
  | start k' buffer heads mark =>
    cases carried
    exact ⟨heads, by rw [if_pos buffer]; exact mark⟩
  | pending m was mark =>
    obtain ⟨heads, marked⟩ := law.heads k (message.trans carried)
    refine ⟨heads, ?_⟩
    split
    · exact mark
    · exact marked
  | clear => cases carried
  | sent k' buffer mark =>
    obtain ⟨heads, marked⟩ := law.heads k (message.trans carried)
    cases carried
    exact ⟨heads, by rw [if_pos buffer, mark, ← buffer]; exact marked⟩

theorem messagesFor_mark (pool : s.pool.held.Nodup) (law : MessagesFor f s) (message : f.message = m) (h : Marking s.pool b y m n)
    (pairs : ∀ i b, n = some (.toEntry i b) → f.target = some i) :
    MessagesFor { f with message := n } { s with pool := { s.pool with buffers := s.pool.buffers.set b y } } where
  short := law.short
  few := law.few
  waiting i c behind := marking_waiting pool law message h (.inl ⟨i, behind⟩) (law.waiting i c behind)
  waitingAll c behind := marking_waiting pool law message h (.inr behind) (law.waitingAll c behind)
  marked i c listed := marking_marked (k := .toEntry i c) message h (law.marked i c listed) fun k buffer heads => by
    have stands : k.buffer ∈ s.pool.outbound[i] := by rw [buffer]; exact listed
    exact (heads.eq_toEntry pool stands).trans (congrArg (Carried.toEntry i) buffer)
  markedAll c listed := marking_marked (k := .toAll c) message h (law.markedAll c listed) fun k buffer heads => by
    have stands : k.buffer ∈ s.pool.broadcast := by rw [buffer]; exact listed
    exact (heads.eq_toAll pool stands).trans (congrArg Carried.toAll buffer)
  heads k carried := by
    obtain ⟨heads, marked⟩ := marking_heads law message h carried
    exact ⟨(heads_buffers k s.pool _).2 heads, marked⟩
  paired := pairs

end

/-- A list that has lost messages: no longer, and with nothing in it, or behind its head, that was not there. -/
structure Shrinks (l l' : List BufIx) : Prop where
  length : l'.length ≤ l.length
  behind : ∀ b ∈ l'.tail, b ∈ l.tail
  listed : ∀ b ∈ l', b ∈ l

theorem Shrinks.refl (l : List BufIx) : Shrinks l l := ⟨Nat.le_refl _, fun _ => id, fun _ => id⟩

theorem Shrinks.nil (l : List BufIx) : Shrinks l [] := ⟨Nat.zero_le _, nofun, nofun⟩

theorem Shrinks.erase (l : List BufIx) (b : BufIx) : Shrinks l (l.erase b) where
  length := List.erase_sublist.length_le
  behind := by
    cases l with
    | nil => nofun
    | cons a rest =>
      intro c h
      rw [List.erase_cons] at h
      split at h
      · exact List.mem_of_mem_tail h
      · exact List.erase_sublist.subset h
  listed _ := fun h => List.erase_sublist.subset h

theorem head_erase {l : List BufIx} {b c : BufIx} (head : l.head? = some c) (other : c ≠ b) : (l.erase b).head? = some c := by
  cases l with
  | nil => nomatch head
  | cons a rest =>
    obtain rfl : a = c := Option.some.inj head
    rw [List.erase_cons_tail (by simpa using other)]
    rfl

/-- The laws after messages have left their lists, the others' marks untouched: what is carried then was carried before and still
heads its list, and nothing else is marked. -/
theorem messagesFor_shrink {f g : Flight} {s t : State} (law : MessagesFor f s)
    (marks : ∀ b : BufIx, t.pool.buffers[b].mark = s.pool.buffers[b].mark ∧ t.pool.buffers[b].transmitted = s.pool.buffers[b].transmitted)
    (entries : ∀ i : EntryIx, Shrinks s.pool.outbound[i] t.pool.outbound[i]) (all : Shrinks s.pool.broadcast t.pool.broadcast)
    (marked : ∀ i, ∀ b ∈ t.pool.outbound[i], f.message = some (.toEntry i b) → g.message = some (.toEntry i b))
    (markedAll : ∀ b ∈ t.pool.broadcast, f.message = some (.toAll b) → g.message = some (.toAll b))
    (heads : ∀ c, g.message = some c → f.message = some c ∧ (c.Heads s.pool → s.pool.buffers[c.buffer].mark ≠ .queued → c.Heads t.pool))
    (paired : ∀ i b, g.message = some (.toEntry i b) → g.target = some i) : MessagesFor g t where
  short i := (entries i).length.trans (law.short i)
  few := all.length.trans law.few
  waiting i b behind := by
    unfold Buffer.Waiting
    rw [(marks b).1, (marks b).2]
    exact law.waiting i b ((entries i).behind b behind)
  waitingAll b behind := by
    unfold Buffer.Waiting
    rw [(marks b).1, (marks b).2]
    exact law.waitingAll b (all.behind b behind)
  marked i b listed mark := marked i b listed (law.marked i b ((entries i).listed b listed) ((marks b).1 ▸ mark))
  markedAll b listed mark := markedAll b listed (law.markedAll b (all.listed b listed) ((marks b).1 ▸ mark))
  heads c carried := by
    obtain ⟨was, keeps⟩ := heads c carried
    obtain ⟨head, mark⟩ := law.heads c was
    exact ⟨keeps head mark, (marks c.buffer).1.symm ▸ mark⟩
  paired := paired

section
variable {f : Flight} {s t : State} {i : EntryIx} {b : BufIx} {m : Option Carried}

/-- The lists that a departure from one entry's list leaves. -/
theorem depart_shrinks (i : EntryIx) (b : BufIx) (s : State) (j : EntryIx) :
    Shrinks s.pool.outbound[j] (withOutbound i (s.pool.outbound[i].erase b) s).pool.outbound[j] := by
  rw [withOutbound_outbound, outbound_set_getElem]
  split
  · next same => exact same ▸ .erase _ b
  · exact .refl _

/-- A message other than the one that departs keeps its place at the head. -/
theorem heads_depart {c : Carried} (heads : c.Heads s.pool) (other : c.buffer ≠ b) :
    c.Heads (withOutbound i (s.pool.outbound[i].erase b) s).pool := by
  cases c with
  | toAll c => exact heads
  | toEntry j c =>
    rw [heads_toEntry] at heads ⊢
    rw [withOutbound_outbound, outbound_set_getElem]
    split
    · next same => exact same ▸ head_erase heads other
    · exact heads

theorem messagesFor_depart (pool : s.pool.held.Nodup) (law : MessagesFor f s) (h : Leaving s.pool b (.toEntry i b) f.message m) :
    MessagesFor { f with message := m } (withOutbound i (s.pool.outbound[i].erase b) s) := by
  generalize message : f.message = n at h
  have marks := fun c : BufIx => (⟨rfl, rfl⟩ : s.pool.buffers[c].mark = s.pool.buffers[c].mark ∧
    s.pool.buffers[c].transmitted = s.pool.buffers[c].transmitted)
  cases h with
  | queued n mark =>
    exact messagesFor_shrink law marks (depart_shrinks i b s) (.refl _) (fun j c _ was => message.symm.trans was)
      (fun c _ was => message.symm.trans was)
      (fun c carried => ⟨message.trans carried, fun heads marked => heads_depart heads fun same => marked (same ▸ mark)⟩)
      fun j c carried => law.paired j c (message.trans carried)
  | none =>
    exact messagesFor_shrink law marks (depart_shrinks i b s) (.refl _) (fun j c _ was => message.symm.trans was)
      (fun c _ was => message.symm.trans was) nofun nofun
  | carried =>
    refine messagesFor_shrink law marks (depart_shrinks i b s) (.refl _) (fun j c listed was => ?_)
      (fun c _ was => by cases message.symm.trans was) nofun nofun
    cases message.symm.trans was
    rw [withOutbound_outbound, outbound_set_same] at listed
    exact absurd rfl ((outbound_nodup pool i).mem_erase_iff.1 listed).1

theorem messagesFor_departAll {n : BitVec 3} (pool : s.pool.held.Nodup) (law : MessagesFor f s)
    (h : Leaving s.pool b (.toAll b) f.message m) :
    MessagesFor { f with message := m } { s with pool := { s.pool with
      broadcast := s.pool.broadcast.erase b
      broadcastNum := n } } := by
  generalize message : f.message = n at h
  have marks := fun c : BufIx => (⟨rfl, rfl⟩ : s.pool.buffers[c].mark = s.pool.buffers[c].mark ∧
    s.pool.buffers[c].transmitted = s.pool.buffers[c].transmitted)
  cases h with
  | queued n mark =>
    refine messagesFor_shrink law marks (fun _ => .refl _) (.erase _ b) (fun j c _ was => message.symm.trans was)
      (fun c _ was => message.symm.trans was)
      (fun c carried => ⟨message.trans carried, fun heads marked => ?_⟩) fun j c carried => law.paired j c (message.trans carried)
    cases c with
    | toEntry j c => exact heads
    | toAll c => exact head_erase heads fun same => marked (same ▸ mark)
  | none =>
    exact messagesFor_shrink law marks (fun _ => .refl _) (.erase _ b) (fun j c _ was => message.symm.trans was)
      (fun c _ was => message.symm.trans was) nofun nofun
  | carried =>
    refine messagesFor_shrink law marks (fun _ => .refl _) (.erase _ b) (fun j c _ was => by cases message.symm.trans was)
      (fun c listed was => ?_) nofun nofun
    cases message.symm.trans was
    exact absurd rfl ((broadcast_nodup pool).mem_erase_iff.1 listed).1

theorem vacate_shrinks (i : EntryIx) (s : State) (j : EntryIx) : Shrinks s.pool.outbound[j] (vacate i s).pool.outbound[j] := by
  have list : (vacate i s).pool.outbound[j] = if j = i then [] else s.pool.outbound[j] := outbound_set_getElem _ _ _ _
  rw [list]
  split
  · exact .nil _
  · exact .refl _

theorem messagesFor_vacate (law : MessagesFor f s) (unaimed : f.target ≠ some i) : MessagesFor f (vacate i s) := by
  refine messagesFor_shrink law (fun _ => ⟨rfl, rfl⟩) (vacate_shrinks i s) (.refl _) (fun _ _ _ => id) (fun _ _ => id)
    (fun c carried => ⟨carried, fun heads _ => ?_⟩) law.paired
  cases c with
  | toAll c => exact heads
  | toEntry j c =>
    have other : j ≠ i := fun same => unaimed (same ▸ law.paired j c carried)
    exact (congrArg List.head? (outbound_set_other s.pool.outbound i j [] other)).trans heads

theorem messagesFor_retire (law : MessagesFor f s) (message : ∀ c, f.message = some c → ∃ b, c = .toEntry i b) :
    MessagesFor { f with target := none, message := none } (vacate i s) := by
  refine messagesFor_shrink law (fun _ => ⟨rfl, rfl⟩) (vacate_shrinks i s) (.refl _) (fun j c listed was => ?_) (fun c _ was => ?_)
    nofun nofun
  · obtain ⟨_, same⟩ := message _ was
    cases same
    exact absurd (outbound_set_same s.pool.outbound i [] ▸ listed : c ∈ ([] : List BufIx)) List.not_mem_nil
  · obtain ⟨_, same⟩ := message _ was
    cases same

/-- A staged message joins a list's tail as a waiting one. -/
theorem tail_append_cases {l : List BufIx} {b c : BufIx} (h : c ∈ (l ++ [b]).tail) : c ∈ l.tail ∨ c = b := by
  cases l with
  | nil => cases h
  | cons a rest => simpa using h

theorem head_append {l : List BufIx} {b c : BufIx} (h : l.head? = some c) : (l ++ [b]).head? = some c := by
  cases l with
  | nil => cases h
  | cons a rest => exact h

/-- A buffer written that no list holds changes nothing of the messages that stand on the lists. -/
theorem set_unlisted {y : Buffer} {c : BufIx} {l : List BufIx} (unlisted : b ∉ l) (listed : c ∈ l) :
    (s.pool.buffers.set b y)[c] = s.pool.buffers[c] :=
  buffers_set_other _ _ _ _ fun same => unlisted (same ▸ listed)

theorem messagesFor_enqueue {y : Buffer} (pool : s.pool.held.Nodup) (law : MessagesFor f s) (staged : s.pool.staged = some b)
    (mark : y.mark = .queued) (sent : y.transmitted = false) (room : s.pool.outbound[i].length < 8) :
    MessagesFor f { s with pool := { s.pool with
      buffers := s.pool.buffers.set b y
      staged := none
      outbound := s.pool.outbound.set i (s.pool.outbound[i] ++ [b]) } } := by
  have out (j : EntryIx) := staged_not_outbound (i := j) pool staged
  have all := staged_not_broadcast pool staged
  have own : (s.pool.buffers.set b y)[b] = y := buffers_set_same _ _ _
  have waits : y.Waiting := ⟨mark, sent⟩
  refine ⟨fun j => ?_, law.few, fun j c behind => ?_, fun c behind => ?_, fun j c listed marked => ?_, fun c listed marked => ?_,
    fun c carried => ?_, law.paired⟩
  · dsimp only
    rw [outbound_set_getElem]
    split
    · rw [List.length_append]
      exact room
    · exact law.short j
  · dsimp only at behind ⊢
    rw [outbound_set_getElem] at behind
    split at behind
    · rcases tail_append_cases behind with tail | same
      · rw [set_unlisted (out i) (List.mem_of_mem_tail tail)]
        exact law.waiting i c tail
      · rw [same, own]
        exact waits
    · rw [set_unlisted (out j) (List.mem_of_mem_tail behind)]
      exact law.waiting j c behind
  · dsimp only
    rw [set_unlisted all (List.mem_of_mem_tail behind)]
    exact law.waitingAll c behind
  · dsimp only at listed marked
    by_cases same : c = b
    · rw [same, own] at marked
      exact absurd mark marked
    · rw [buffers_set_other _ _ _ _ same] at marked
      refine law.marked j c ?_ marked
      rw [outbound_set_getElem] at listed
      split at listed
      · next entry =>
        rw [entry]
        simpa [same] using listed
      · exact listed
  · dsimp only at marked
    rw [set_unlisted all listed] at marked
    exact law.markedAll c listed marked
  · obtain ⟨heads, marked⟩ := law.heads c carried
    have listed : c.buffer ≠ b := by
      rintro rfl
      rcases heads.mem with ⟨j, _, mem⟩ | ⟨_, mem⟩
      · exact out j mem
      · exact all mem
    refine ⟨?_, (buffers_set_other s.pool.buffers b c.buffer y listed).symm ▸ marked⟩
    cases c with
    | toAll c => exact heads
    | toEntry j c =>
      rw [heads_toEntry] at heads ⊢
      dsimp only
      rw [outbound_set_getElem]
      split
      · next entry => exact head_append (entry ▸ heads)
      · exact heads

theorem messagesFor_enqueueAll {y : Buffer} (pool : s.pool.held.Nodup) (law : MessagesFor f s) (staged : s.pool.staged = some b)
    (mark : y.mark = .queued) (sent : y.transmitted = false) (room : s.pool.broadcast.length < 4) :
    MessagesFor f { s with pool := { s.pool with
      buffers := s.pool.buffers.set b y
      staged := none
      broadcast := s.pool.broadcast ++ [b] } } := by
  have out (j : EntryIx) := staged_not_outbound (i := j) pool staged
  have all := staged_not_broadcast pool staged
  have own : (s.pool.buffers.set b y)[b] = y := buffers_set_same _ _ _
  refine ⟨law.short, ?_, fun j c behind => ?_, fun c behind => ?_, fun j c listed marked => ?_, fun c listed marked => ?_,
    fun c carried => ?_, law.paired⟩
  · exact (List.length_append ..).trans_le room
  · dsimp only
    rw [set_unlisted (out j) (List.mem_of_mem_tail behind)]
    exact law.waiting j c behind
  · dsimp only at behind ⊢
    rcases tail_append_cases behind with tail | same
    · rw [set_unlisted all (List.mem_of_mem_tail tail)]
      exact law.waitingAll c tail
    · rw [same, own]
      exact ⟨mark, sent⟩
  · dsimp only at marked
    rw [set_unlisted (out j) listed] at marked
    exact law.marked j c listed marked
  · dsimp only at listed marked
    by_cases same : c = b
    · rw [same, own] at marked
      exact absurd mark marked
    · rw [buffers_set_other _ _ _ _ same] at marked
      exact law.markedAll c (by simpa [same] using listed) marked
  · obtain ⟨heads, marked⟩ := law.heads c carried
    have listed : c.buffer ≠ b := by
      rintro rfl
      rcases heads.mem with ⟨j, _, mem⟩ | ⟨_, mem⟩
      · exact out j mem
      · exact all mem
    refine ⟨?_, (buffers_set_other s.pool.buffers b c.buffer y listed).symm ▸ marked⟩
    cases c with
    | toEntry j c => exact heads
    | toAll c => exact head_append heads

end

/-- The message laws with those they rest on (R22, R96, R104, R196). -/
structure LawfulFor (f : Flight) (s : State) : Prop where
  pool : s.PoolLaw
  target : TableFor f.target s
  reservation : s.pool.reserved = f.reply
  range : s.RangeLaw
  messages : MessagesFor f s

theorem Move.keeps_messages {p q : Flight × State} (h : Move p q) (law : LawfulFor p.1 p.2) : MessagesFor q.1 q.2 := by
  have messages := law.messages
  have pool : p.2.pool.held.Nodup := law.pool
  cases h with
  | edit f s i e x h message =>
    exact { messages with
      paired := fun j c carried => by
        rcases message with same | none
        · exact same.trans (messages.paired j c carried)
        · cases none.symm.trans carried }
  | vacate f s i idle => exact messagesFor_vacate messages (mt (law.target.1 i).2 (Bool.eq_false_iff.1 idle))
  | retire f s i retiring target message => exact messagesFor_retire messages message
  | pool f s p x h =>
    refine messagesFor_shrink messages h.marks (fun j => ?_) (h.broadcast ▸ .refl _) (fun _ _ _ => id) (fun _ _ => id)
      (fun c carried => ⟨carried, fun heads _ => ?_⟩) messages.paired
    · have list : p.outbound[j] = s.pool.outbound[j] := congrArg (·[j]) h.outbound
      exact list ▸ .refl _
    · cases c with
      | toEntry j c =>
        rw [heads_toEntry] at heads ⊢
        exact (congrArg (fun v : Vector (List BufIx) 32 => v[j].head?) h.outbound).trans heads
      | toAll c => exact (congrArg List.head? h.broadcast).trans heads
  | enqueue f s i b y staged mark sent occupied room =>
    have limit : s.params.maxq ≤ 8 := law.range.2.2.2.2.2.1.2
    exact messagesFor_enqueue pool messages staged mark sent (room.trans_le limit)
  | enqueueAll f s b y staged mark sent room => exact messagesFor_enqueueAll pool messages staged mark sent room
  | depart f s i b m h => exact messagesFor_depart pool messages h
  | departAll f s b n m h => exact messagesFor_departAll pool messages h
  | mark f s b y m h paired =>
    refine messagesFor_mark pool messages rfl h fun i c carried => ?_
    exact (paired i c carried).elim (fun same => messages.paired i c (same.trans carried)) id
  | _ => exact { messages with }

end Sys2Proof.Machine

/-! SUPPORT. The laws of the messages, together with those they rest on, kept by every change; and their tie to the laws of Safety. -/

namespace Sys2Proof.Machine

theorem messagesFor_empty {f : Flight} {s : State} (message : f.message = none) (lists : ∀ i : EntryIx, s.pool.outbound[i] = [])
    (all : s.pool.broadcast = []) : MessagesFor f s where
  short i := by rw [lists i]; exact Nat.zero_le _
  few := by rw [all]; exact Nat.zero_le _
  waiting i b behind := by rw [lists i] at behind; cases behind
  waitingAll b behind := by rw [all] at behind; cases behind
  marked i b listed := by rw [lists i] at listed; cases listed
  markedAll b listed := by rw [all] at listed; cases listed
  heads c carried := by cases message.symm.trans carried
  paired i b carried := by cases message.symm.trans carried

theorem Change.keeps_messages {p q : Flight × State} (h : Change p q) (law : LawfulFor p.1 p.2) : MessagesFor q.1 q.2 := by
  rcases h with move | control | cleared
  · exact move.keeps_messages law
  · cases control <;> exact { law.messages with }
  · cases cleared with
    | pin f s => exact messagesFor_empty rfl allFree_outbound rfl
    | line f s => exact messagesFor_empty rfl allFree_outbound rfl

theorem Change.keeps_lawful {p q : Flight × State} (h : Change p q) (law : LawfulFor p.1 p.2) : LawfulFor q.1 q.2 where
  pool := h.keeps_pool law.pool
  target := h.keeps_target law.target
  reservation := h.keeps_reservation law.reservation
  range := h.keeps_range law.range
  messages := h.keeps_messages law

/-! ## The tie to the laws of Safety -/

theorem carries_toEntry_iff (s : State) (i : EntryIx) (b : BufIx) :
    s.flight.message = some (.toEntry i b) ↔ s.engine.record.map (fun r => r.exch) = some (.deliver i b) := by
  cases h : s.engine.record with
  | none => simp [State.flight, h]
  | some r => cases hx : r.exch <;> simp [State.flight, h, hx, Exchange.flight]

theorem carries_toAll_iff (s : State) (b : BufIx) :
    s.flight.message = some (.toAll b) ↔ s.engine.record.map (fun r => r.exch) = some (.broadcast b) := by
  cases h : s.engine.record with
  | none => simp [State.flight, h]
  | some r => cases hx : r.exch <;> simp [State.flight, h, hx, Exchange.flight]

theorem flight_paired (s : State) (i : EntryIx) (b : BufIx) (h : s.flight.message = some (.toEntry i b)) :
    s.flight.target = some i := by
  cases hr : s.engine.record with
  | none => simp [State.flight, hr] at h
  | some r => cases hx : r.exch <;> simp_all [State.flight, Exchange.flight]

theorem messagesFor_iff (s : State) : s.ListLaw ∧ s.MarkLaw ∧ s.HeadLaw ↔ MessagesFor s.flight s := by
  constructor
  · rintro ⟨⟨entries, few, waitingAll⟩, ⟨marked, markedAll⟩, ⟨heads, headsAll⟩⟩
    refine ⟨fun i => (entries i).1, few, fun i => (entries i).2, waitingAll,
      fun i b listed mark => (carries_toEntry_iff s i b).2 (marked i b listed mark).2,
      fun b listed mark => (carries_toAll_iff s b).2 (markedAll b listed mark).2, fun c carried => ?_, flight_paired s⟩
    cases c with
    | toEntry i b => exact heads i b ((carries_toEntry_iff s i b).1 carried)
    | toAll b => exact headsAll b ((carries_toAll_iff s b).1 carried)
  · intro law
    have heads (i : EntryIx) (b : BufIx) (carried : s.flight.message = some (.toEntry i b)) := law.heads _ carried
    have headsAll (b : BufIx) (carried : s.flight.message = some (.toAll b)) := law.heads _ carried
    refine ⟨⟨fun i => ⟨law.short i, law.waiting i⟩, law.few, law.waitingAll⟩, ⟨fun i b listed mark => ?_, fun b listed mark => ?_⟩,
      fun i b carried => heads i b ((carries_toEntry_iff s i b).2 carried),
      fun b carried => headsAll b ((carries_toAll_iff s b).2 carried)⟩
    · have carried := law.marked i b listed mark
      exact ⟨(heads i b carried).1, (carries_toEntry_iff s i b).1 carried⟩
    · have carried := law.markedAll b listed mark
      exact ⟨(headsAll b carried).1, (carries_toAll_iff s b).1 carried⟩

theorem lawfulFor_iff (s : State) : s.PoolLaw ∧ s.TargetLaw ∧ s.ReservationLaw ∧ s.RangeLaw ∧ s.ListLaw ∧ s.MarkLaw ∧ s.HeadLaw ↔
    s.RecordLaw ∧ LawfulFor s.flight s := by
  rw [targetLaw_iff, messagesFor_iff]
  unfold State.ReservationLaw
  rw [replyBuffer_eq]
  constructor
  · rintro ⟨pool, ⟨record, target⟩, ⟨_, reservation⟩, range, messages⟩
    exact ⟨record, pool, target, reservation, range, messages⟩
  · rintro ⟨record, law⟩
    exact ⟨law.pool, ⟨record, law.target⟩, ⟨record, law.reservation⟩, law.range, law.messages⟩

end Sys2Proof.Machine

/-! SUPPORT. The operations of the table, the pool and the sweep as moves: what each does to the exchange it is told of, part by part. -/

namespace Sys2Proof.Machine

/-! ## Postings, the latch and the scheduler's record -/

theorem posted_kept (e : Event) (q : EventQueue) : EventsKept q (q.posted e) := by
  unfold EventQueue.posted
  split
  · split
    · next room =>
      have less : q.records.length < 32 := room
      refine ⟨id, fun law => ?_, id⟩
      obtain ⟨_, full⟩ := law
      simp only [List.length_append, List.length_singleton]
      exact ⟨less, fun lost => absurd (full lost) (Nat.ne_of_lt less)⟩
    · next full =>
      have least : 32 ≤ q.records.length := Nat.not_lt.1 full
      refine ⟨fun _ => ?_, fun law => ⟨law.1, fun _ => Nat.le_antisymm law.1 least⟩, id⟩
      simp only [satInc_eq_min]
      omega
  · exact ⟨id, id, id⟩

theorem post_moves (f : Flight) (e : Event) (s : State) : Moves (f, s) (f, post e s) := by
  rw [post_eq]
  exact (Move.events f s _ (posted_kept e _)).moves

theorem posting_moves (f : Flight) (es : List Event) (s : State) : Moves (f, s) (f, s.posting es) := by
  induction es generalizing s with
  | nil => exact .refl _
  | cons e rest ih => exact (post_moves f e s).trans (ih _)

theorem postEntry_moves (f : Flight) (c : EventCode) (i : EntryIx) (id : Byte) (d : Nat) (s : State) :
    Moves (f, s) (f, postEntry c i id d s) := post_moves f _ s

/-- A change of the host port that leaves the latch and the width alone. -/
theorem modPort_moves (f : Flight) (g : Port → Port) (s : State) (kept : ∀ p, (g p).latch = p.latch ∧ (g p).wide = p.wide) :
    Moves (f, s) (f, modPort g s) :=
  (Move.port f s (g s.port) ⟨fun h => (kept _).1.symm ▸ h, fun h => (kept _).1.symm ▸ h, (kept _).2⟩).moves

theorem raise_lawful (h : HostError) (l : Latch) (law : l.Lawful) : (l.raise h).Lawful := by
  obtain ⟨counted, coded⟩ := law
  rcases latch_raise_cases h l with ⟨flag, eq⟩ | ⟨_, eq⟩ <;> rw [eq]
  · exact ⟨fun _ => flag, coded⟩
  · exact ⟨fun _ => rfl, fun _ => rfl⟩

theorem hostError_moves (f : Flight) (h : HostError) (s : State) : Moves (f, s) (f, hostError h s) := by
  refine (Move.port f s { s.port with latch := s.port.latch.raise h } ⟨fun count => ?_, raise_lawful h _, rfl⟩).moves
  rcases latch_raise_cases h s.port.latch with ⟨_, eq⟩ | ⟨_, eq⟩ <;> dsimp only <;> rw [eq]
  · simp only [satInc_eq_min]
    omega
  · exact count

/-- A change of the scheduler's record alone that leaves the urgent list alone. -/
theorem sched_moves (f : Flight) (s : State) (q : Scheduler) (urgent : q.urgent = s.sched.urgent)
    (law : s.SchedulerLaw → { s with sched := q }.SchedulerLaw) : Moves (f, s) (f, { s with sched := q }) :=
  (Move.sched f s s.params q ⟨urgent, id, law⟩).moves

theorem arrival_moves (f : Flight) (s : State) : Moves (f, s) (f, arrival s) := sched_moves f s _ rfl id

/-- The run emptied and the walk not made to wait keep the scheduler's law. -/
theorem schedulerLaw_rested {s : State} {q : Scheduler} (run : q.run = {}) (dormant : q.walk ≠ .dormant)
    (wait : q.walk = .paceWait → s.sched.walk = .paceWait) (pace : q.pointer = s.sched.pointer ∧ q.paceTimer = s.sched.paceTimer)
    (law : s.SchedulerLaw) : { s with sched := q }.SchedulerLaw := by
  obtain ⟨low, high, _, _, paced, _⟩ := law
  refine ⟨low, high, by simp [run], fun d => absurd d dormant, fun p => ?_, fun _ => ?_⟩
  · rw [pace.1, pace.2]
    exact paced (wait p)
  · simp only [run]
    exact low

theorem wake_moves (f : Flight) (s : State) : Moves (f, s) (f, wake s) := by
  refine sched_moves f s _ rfl (schedulerLaw_rested rfl ?_ ?_ ⟨rfl, rfl⟩) <;> cases h : s.sched.walk <;> simp

theorem freed_moves (f : Flight) (s : State) : Moves (f, s) (f, { s with sched := s.sched.freed }) := by
  refine sched_moves f s _ (freed_urgent _) ?_
  unfold Scheduler.freed
  split
  · exact schedulerLaw_rested rfl nofun nofun ⟨rfl, rfl⟩
  · split <;> exact id

theorem bufferFreed_moves (f : Flight) (s : State) : Moves (f, s) (f, bufferFreed s) := bufferFreed_eq s ▸ freed_moves f s

/-! ## Edits of an entry -/

/-- An edit that leaves the entry's state, its address, its miss count and its flags alone. -/
theorem EntryEdit.plain {i : EntryIx} {x : Option EntryIx} {e e' : Entry} (occupied : e.state ≠ .empty ∨ x = some i)
    (state : e'.state = e.state) (address : e'.address = e.address) (miss : e'.miss = e.miss)
    (listed : e'.urgentListed = e.urgentListed) (flag : e'.inFlight = e.inFlight) (counts : e.Counted → e'.Counted) :
    EntryEdit i x x e e' where
  kept := ⟨fun h => ⟨state ▸ h, address⟩, fun h => .inr ⟨state ▸ h, miss⟩, counts⟩
  occupied := occupied
  empty := by rw [state]
  idle _ := state
  listed := listed
  flag := .same x flag

theorem modEntry_moves {f : Flight} {s : State} {i : EntryIx} {g : Entry → Entry}
    (h : EntryEdit i f.target f.target s.table[i] (g s.table[i])) : Moves (f, s) (f, modEntry i g s) :=
  (Move.edit f s i _ f.target h (.inl rfl)).moves

theorem countFailedAttempt_moves {f : Flight} {s : State} {i : EntryIx} (target : f.target = some i) :
    Moves (f, s) (f, countFailedAttempt i s) := by
  refine modEntry_moves ?_
  by_cases h : s.table[i].state = .retiring
  · rw [if_pos h]
    exact .plain (.inr target) rfl rfl rfl rfl rfl id
  · rw [if_neg h]
    refine .plain (.inr target) rfl rfl rfl rfl rfl fun ⟨miss, good, fail, dup⟩ => ⟨miss, good, ?_, dup⟩
    simp only [satInc_eq_min]
    omega

/-! ## The reservation -/

/-- A change of the pool that leaves the lists and every buffer's mark alone, and the reply buffer where it was. -/
theorem pool_moves (f : Flight) (s : State) (p : Pool) (h : PoolKept s.pool p f.reply f.reply) : Moves (f, s) (f, { s with pool := p }) :=
  (Move.pool f s p f.reply h).moves

theorem held_release (p : Pool) (h : p.held.Nodup) : { p with reserved := none }.held.Nodup := by
  refine h.sublist ?_
  simp only [Pool.held, Option.toList_none, List.append_nil]
  exact ((((List.sublist_append_left _ _).append_right _).append_right _).append_right _).append_right _

theorem release_kept (p : Pool) (x : Option BufIx) : PoolKept p { p with reserved := none } x none :=
  ⟨held_release p, rfl, rfl, fun _ => ⟨rfl, rfl⟩, fun _ => rfl⟩

theorem releaseReservation_moves (f : Flight) (s : State) : Moves (f, s) ({ f with reply := none }, releaseReservation s) := by
  rcases releaseReservation_cases s with ⟨vacant, eq⟩ | eq <;> rw [eq]
  · exact (Move.pool f s s.pool none ⟨id, rfl, rfl, fun _ => ⟨rfl, rfl⟩, fun _ => vacant⟩).moves
  · exact (Move.pool f s _ none (release_kept s.pool _)).moves.trans (bufferFreed_moves _ _)

/-! ## Departures (R104, R106, R110) -/

theorem depart_moves {f : Flight} {s : State} {i : EntryIx} {b : BufIx} {m : Option Carried}
    (occupied : s.table[i].state ≠ .empty ∨ f.target = some i) (h : Leaving s.pool b (.toEntry i b) f.message m) :
    Moves (f, s) ({ f with message := m }, depart i b s) := by
  refine ((Move.depart f s i b m h).moves.trans (modEntry_moves ?_)).trans (bufferFreed_moves _ _)
  split <;> exact .plain occupied rfl rfl rfl rfl rfl id

theorem departWith_moves {f : Flight} {s : State} {i : EntryIx} {b : BufIx} {m : Option Carried} (c : EventCode) (d : Nat)
    (occupied : s.table[i].state ≠ .empty ∨ f.target = some i) (h : Leaving s.pool b (.toEntry i b) f.message m) :
    Moves (f, s) ({ f with message := m }, departWith i b c d s) :=
  (depart_moves occupied h).trans (postEntry_moves _ _ _ _ _ _)

theorem departed_moves {f : Flight} {i : EntryIx} {bs : List BufIx} {s : State}
    (occupied : s.table[i].state ≠ .empty ∨ f.target = some i)
    (h : f.message = none ∨ ∀ b ∈ bs, s.pool.buffers[b].mark = .queued) : Moves (f, s) (f, departed i bs s) := by
  induction bs generalizing s with
  | nil =>
    rw [departed_nil]
    exact .refl _
  | cons b rest ih =>
    have first : Moves (f, s) (f, departed i [b] s) := by
      rw [← depart_eq]
      rcases h with idle | queued
      · have leaves : Leaving s.pool b (.toEntry i b) f.message f.message := by rw [idle]; exact .none
        exact depart_moves occupied leaves
      · exact depart_moves occupied (.queued _ (queued b (List.mem_cons_self ..)))
    rw [← departed_cons]
    refine first.trans (ih ?_ (h.imp_right fun queued c hc => queued c (List.mem_cons_of_mem _ hc)))
    simpa [departed, Entry.advanced] using occupied

theorem flush_moves {f : Flight} {i : EntryIx} {bs : List BufIx} {s : State} (c : EventCode) (d : Buffer → Nat)
    (occupied : s.table[i].state ≠ .empty ∨ f.target = some i)
    (h : f.message = none ∨ ∀ b ∈ bs, s.pool.buffers[b].mark = .queued) : Moves (f, s) (f, flush i c d bs s) := by
  rw [flush_eq]
  exact (departed_moves occupied h).trans (posting_moves _ _ _)

/-! ## Retirement (R38, R40, R41) -/

/-- The scheduler's record after the named messages have departed. -/
def freedBy (bs : List BufIx) (q : Scheduler) : Scheduler := if bs = [] then q else q.freed

theorem freedBy_moves (f : Flight) (bs : List BufIx) (s : State) : Moves (f, s) (f, { s with sched := freedBy bs s.sched }) := by
  unfold freedBy
  split
  · exact .refl _
  · exact freed_moves f s

theorem vacate_departed (i : EntryIx) (bs : List BufIx) (s : State) :
    vacate i (departed i bs s) = vacate i { s with sched := freedBy bs s.sched } := by
  simp [vacate, withEntry, withOutbound, departed, freedBy]

/-- A flush and the retirement after it in one piece: the entry vacated, and all records in their order. -/
theorem retire_flush_eq (i : EntryIx) (c : EventCode) (d : Buffer → Nat) (bs : List BufIx) (s : State) :
    retire i (flush i c d bs s) = (vacate i { s with sched := freedBy bs s.sched }).posting
      (flushRecords i c d bs s ++ [entryEvent .stationRetired i s.table[i].address 0#8 0]) := by
  have address : (departed i bs s).table[i].address = s.table[i].address := by simp [departed, Entry.advanced]
  rw [flush_eq, retire_eq, posting_append, vacate_posting, vacate_departed, ← address]
  simp only [posting_eq]

section
variable {f : Flight} {s : State} {i : EntryIx} (retiring : s.table[i].state = .retiring)
  (target : f.target = some i ∨ f.target = none) (message : ∀ c, f.message = some c → ∃ b, c = .toEntry i b)
include retiring target message

theorem retire_moves : Moves (f, s) ({ f with target := none, message := none }, retire i s) := by
  rw [retire_eq]
  exact (Move.retire f s i retiring target message).moves.trans (posting_moves _ _ _)

theorem retire_flush_moves (c : EventCode) (d : Buffer → Nat) (bs : List BufIx) :
    Moves (f, s) ({ f with target := none, message := none }, retire i (flush i c d bs s)) := by
  rw [retire_flush_eq]
  have leaves := Move.retire f { s with sched := freedBy bs s.sched } i retiring target message
  exact ((freedBy_moves f bs s).trans leaves.moves).trans (posting_moves _ _ _)

end

/-! ## Outcomes (R29 to R34, R40, R41) -/

/-- The exchange has no target and no message left. -/
def Flight.settled (f : Flight) : Flight := { f with target := none, message := none }

/-- An edit that ends the exchange's hold of its target, its message having been dealt with. -/
theorem settle_moves {f : Flight} {s : State} {i : EntryIx} {e : Entry} (message : f.message = none)
    (h : EntryEdit i f.target none s.table[i] e) : Moves (f, s) (f.settled, { s with table := s.table.set i e }) := by
  have same : f.settled = { f with target := none } := by unfold Flight.settled; rw [← message]
  rw [same]
  exact (Move.edit f s i e none h (.inr message)).moves

theorem goodFields_counted {e : Entry} {st : EntryState} (h : e.Counted) : ({ goodFields e with state := st } : Entry).Counted := by
  obtain ⟨_, _, fail, dup⟩ := h
  refine ⟨Nat.zero_le _, ?_, fail, dup⟩
  simp only [goodFields, satInc_eq_min]
  omega

section
variable {f : Flight} {s : State} {i : EntryIx} (message : f.message = none)
include message

/-- A good outcome's edit: ONLINE, or PARKED as it was, without a miss. -/
theorem good_edit (target : f.target = some i ∨ f.target = none) (occupied : s.table[i].state ≠ .empty)
    (staying : s.table[i].state ≠ .retiring) {st : EntryState} (becomes : st = .online ∨ st = s.table[i].state) :
    Moves (f, s) (f.settled, { s with table := s.table.set i { goodFields s.table[i] with state := st } }) := by
  refine settle_moves message ⟨⟨fun _ => ⟨occupied, rfl⟩, fun _ => .inl rfl, goodFields_counted⟩, .inl occupied, ?_, ?_, rfl,
    .cleared _ target rfl staying⟩
  · rcases becomes with rfl | rfl
    · exact ⟨nofun, fun gone => absurd gone occupied⟩
    · rfl
  · rcases becomes with rfl | rfl
    · rintro (h | h) <;> cases h
    · exact fun _ => rfl

theorem goodOutcome_moves (h : f.target = some i ∨ f.target = none ∧ s.table[i].state ≠ .empty) :
    Moves (f, s) (f.settled, goodOutcome i s) := by
  have target : f.target = some i ∨ f.target = none := h.imp_right And.left
  unfold goodOutcome
  split
  · next state =>
    have aimed : f.target = some i := h.elim id fun g => absurd state g.2
    have gone : FlagMove i s.table[i] s.table[i] f.target none := aimed ▸ .gone state
    have moves := settle_moves (e := s.table[i]) message ⟨.refl _, .inr aimed, .rfl, fun _ => rfl, rfl, gone⟩
    simpa using moves
  · next state =>
    exact (good_edit message target (ne_of_eq_of_ne state nofun) (ne_of_eq_of_ne state nofun) (.inl rfl)).trans (postEntry_moves _ _ _ _ _ _)
  · next state => exact good_edit message target (ne_of_eq_of_ne state nofun) (ne_of_eq_of_ne state nofun) (.inr rfl)
  · next state => exact good_edit message target (ne_of_eq_of_ne state nofun) (ne_of_eq_of_ne state nofun) (.inl rfl)
  · next state =>
    exact (good_edit message target (ne_of_eq_of_ne state nofun) (ne_of_eq_of_ne state nofun) (.inl rfl)).trans (postEntry_moves _ _ _ _ _ _)
  · next state => exact good_edit message target (ne_of_eq_of_ne state nofun) (ne_of_eq_of_ne state nofun) (.inr rfl)
  · next state => exact retire_moves state target fun c carried => by cases message.symm.trans carried

theorem abandonedOutcome_moves (target : f.target = some i) : Moves (f, s) (f.settled, abandonedOutcome i s) := by
  unfold abandonedOutcome
  split
  · next retiring => exact retire_flush_moves retiring (.inl target) (fun c carried => by cases message.symm.trans carried) _ _ _
  · next staying =>
    exact settle_moves message ⟨⟨fun h => ⟨h, rfl⟩, fun h => .inr ⟨h, rfl⟩, id⟩, .inr target, .rfl, fun _ => rfl, rfl,
      .cleared _ (.inl target) rfl staying⟩

end

end Sys2Proof.Machine

/-! SUPPORT. The failed outcomes, the replies and the sweep's outcomes as moves. -/

namespace Sys2Proof.Machine

/-! ## Failed outcomes and the loss of a station (R30 to R32) -/

/-- An entry edited and taken off the urgent list, in one piece. -/
theorem dropUrgent_modEntry (i : EntryIx) (g : Entry → Entry) (s : State) : dropUrgent i (modEntry i g s) = { s with
    table := s.table.set i { g s.table[i] with urgentListed := false }
    sched := { s.sched with urgent := s.sched.urgent.filter fun j => j != i } } := by
  simp [dropUrgent, modEntry, withEntry]

theorem dropUrgent_eq (i : EntryIx) (s : State) : dropUrgent i s = { s with
    table := s.table.set i { s.table[i] with urgentListed := false }
    sched := { s.sched with urgent := s.sched.urgent.filter fun j => j != i } } := rfl

theorem failedFields_counted {e : Entry} (h : e.Counted) : (failedFields e).Counted := by
  obtain ⟨_, good, fail, dup⟩ := h
  refine ⟨?_, good, fail, dup⟩
  simp only [failedFields, satInc_eq_min]
  omega

section
variable {f : Flight} {s : State} {i : EntryIx}

/-- The flush that follows the loss of a station, by its hold-on-loss option (R32). -/
theorem enterLost_eq (d : Nat) (g : Entry → Entry) (s : State) : enterLost i d (modEntry i g s) =
    let s1 := postEntry .stationLost i 0#8 d
      (dropUrgent i (modEntry i (fun e => { g e with state := .lost }) s))
    if s1.table[i].holdOnLoss then s1 else flush i .deliveryFailed (fun _ => 3) s1.pool.outbound[i] s1 := by
  have twice : modEntry i (fun e => { e with state := .lost }) (modEntry i g s) =
      modEntry i (fun e => { g e with state := .lost }) s := by simp [modEntry, withEntry]
  unfold enterLost
  rw [twice]

/-- The station is lost at the end of an exchange to it: off the urgent list, LOST, its flag clear and its miss count raised. -/
theorem lose_moves (message : f.message = none) (target : f.target = some i) (occupied : s.table[i].state ≠ .empty) : Moves (f, s)
      (f.settled, dropUrgent i (modEntry i (fun e => { failedFields e with state := .lost }) s)) := by
  have first := Move.unlisted f s i { failedFields s.table[i] with
      state := .lost
      urgentListed := false
      inFlight := s.table[i].inFlight }
    ⟨⟨fun _ => ⟨occupied, rfl⟩, nofun, failedFields_counted⟩, occupied, nofun, nofun, rfl, rfl⟩
  have second := settle_moves (f := f) (i := i) (e := { failedFields s.table[i] with state := .lost, urgentListed := false })
    (s := { s with
      table := s.table.set i { failedFields s.table[i] with
        state := .lost
        urgentListed := false
        inFlight := s.table[i].inFlight }
      sched := { s.sched with urgent := s.sched.urgent.filter fun j => j != i } }) message (by
      dsimp only
      rw [table_set_same]
      exact ⟨⟨fun _ => ⟨nofun, rfl⟩, nofun, id⟩, .inr target, .rfl, fun _ => rfl, rfl, .cleared _ (.inl target) rfl nofun⟩)
  rw [dropUrgent_modEntry]
  simpa only [Vector.set_set] using first.moves.trans second

theorem enterLost_moves (d : Nat) (message : f.message = none) (target : f.target = some i) (occupied : s.table[i].state ≠ .empty) :
    Moves (f, s) (f.settled, enterLost i d (modEntry i failedFields s)) := by
  have lost := (lose_moves message target occupied).trans (postEntry_moves _ .stationLost i 0#8 d _)
  rw [enterLost_eq]
  dsimp only
  split
  · exact lost
  · refine lost.trans (flush_moves _ _ (.inl ?_) (.inl rfl))
    rw [postEntry_table, dropUrgent_modEntry, table_set_same]
    nofun

/-- A miss that does not lose the station. -/
theorem miss_moves (message : f.message = none) (target : f.target = some i) (staying : s.table[i].state ≠ .retiring)
    {st : EntryState} (becomes : st = s.table[i].state ∧ st ≠ .online ∨ st = .suspect ∧ s.table[i].state = .online) :
    Moves (f, s) (f.settled, { s with table := s.table.set i { failedFields s.table[i] with state := st } }) := by
  refine settle_moves message ⟨⟨fun o => ⟨?_, rfl⟩, fun o => ?_, failedFields_counted⟩, .inr target, ?_, fun o => ?_, rfl,
    .cleared _ (.inl target) rfl staying⟩ <;> rcases becomes with ⟨rfl, notOnline⟩ | ⟨rfl, online⟩
  · exact o
  · exact ne_of_eq_of_ne online nofun
  · exact absurd o notOnline
  · cases o
  · exact .rfl
  · exact ⟨nofun, fun gone => absurd gone (ne_of_eq_of_ne online nofun)⟩
  · rfl
  · rcases o with o | o <;> cases o

theorem retireFailed_moves (retiring : s.table[i].state = .retiring) (target : f.target = some i)
    (message : ∀ c, f.message = some c → ∃ b, c = .toEntry i b) : Moves (f, s) (f.settled, retireFailed i s) :=
  retire_flush_moves retiring (.inl target) message _ _ _

/-- A failed outcome: the message has been dealt with, or it is the target's own and the target is RETIRING. -/
theorem failedOutcome_moves (target : f.target = some i)
    (message : f.message = none ∨ s.table[i].state = .retiring ∧ ∀ c, f.message = some c → ∃ b, c = .toEntry i b) :
    Moves (f, s) (f.settled, failedOutcome i s) := by
  have dealt (staying : s.table[i].state ≠ .retiring) : f.message = none := message.elim id fun h => absurd h.1 staying
  unfold failedOutcome
  dsimp only
  split
  · next state =>
    have gone : FlagMove i s.table[i] s.table[i] f.target none := target ▸ .gone state
    have moves := settle_moves (e := s.table[i]) (dealt (ne_of_eq_of_ne state nofun))
      ⟨.refl _, .inr target, .rfl, fun _ => rfl, rfl, gone⟩
    simpa using moves
  · next state =>
    have staying : s.table[i].state ≠ .retiring := ne_of_eq_of_ne state nofun
    split
    · exact miss_moves (dealt staying) target staying (.inl ⟨rfl, ne_of_eq_of_ne state nofun⟩)
    · exact enterLost_moves 1 (dealt staying) target (ne_of_eq_of_ne state nofun)
  · next state =>
    have staying : s.table[i].state ≠ .retiring := ne_of_eq_of_ne state nofun
    split
    · have moves := miss_moves (st := .suspect) (dealt staying) target staying (.inr ⟨rfl, state⟩)
      simpa [modEntry, withEntry] using moves
    · exact enterLost_moves 2 (dealt staying) target (ne_of_eq_of_ne state nofun)
  · next state =>
    have staying : s.table[i].state ≠ .retiring := ne_of_eq_of_ne state nofun
    split
    · exact miss_moves (dealt staying) target staying (.inl ⟨rfl, ne_of_eq_of_ne state nofun⟩)
    · exact enterLost_moves 2 (dealt staying) target (ne_of_eq_of_ne state nofun)
  · next state =>
    have staying : s.table[i].state ≠ .retiring := ne_of_eq_of_ne state nofun
    exact miss_moves (dealt staying) target staying (.inl ⟨rfl, ne_of_eq_of_ne state nofun⟩)
  · next state =>
    have staying : s.table[i].state ≠ .retiring := ne_of_eq_of_ne state nofun
    exact miss_moves (dealt staying) target staying (.inl ⟨rfl, ne_of_eq_of_ne state nofun⟩)
  · next state =>
    refine retireFailed_moves state target (message.elim (fun idle c carried => ?_) And.right)
    cases idle.symm.trans carried

/-! ## Reports (R121 to R129) -/

theorem actOnMore_moves (tag : BitVec 4) : Moves (f, s) (f, actOnMore i tag s) := by
  unfold actOnMore requestUrgent
  split
  · split
    · exact .refl _
    · next eligible =>
      split
      · exact .refl _
      · next new =>
        split
        · exact .refl _
        · next room =>
          refine (Move.listed f s i (mt List.contains_iff_mem.2 new) (Nat.not_le.1 room) ?_).moves
          refine ⟨?_, ?_, ?_⟩ <;> intro state <;> exact eligible (by simp only [ineligible, state])
  · exact .refl _

theorem takeDuplicate_moves (target : f.target = some i) : Moves (f, s) ({ f with reply := none }, takeDuplicate i s) := by
  refine (releaseReservation_moves f s).trans (modEntry_moves ?_)
  refine .plain (.inr target) rfl rfl rfl rfl rfl fun ⟨miss, good, fail, dup⟩ => ⟨miss, good, fail, ?_⟩
  simp only [satInc_eq_min]
  omega

/-- The reserved buffer at the tail of the inbound queue, written as a report (R125). -/
theorem take_kept {p : Pool} {b : BufIx} {y : Buffer} {x : Option BufIx} (held : p.reserved = some b)
    (mark : y.mark = p.buffers[b].mark) (sent : y.transmitted = p.buffers[b].transmitted) :
    PoolKept p { p with buffers := p.buffers.set b y, reserved := none, inbound := p.inbound ++ [b] } x none where
  nodup law := by
    refine List.Perm.nodup_iff (List.perm_iff_count.2 fun c => ?_) |>.1 law
    simp only [Pool.held, held, Option.toList_some, Option.toList_none, List.count_append, List.count_nil]
    omega
  outbound := rfl
  broadcast := rfl
  marks c := by
    dsimp only
    rw [buffers_set_getElem]
    split
    · next same => exact same ▸ ⟨mark, sent⟩
    · exact ⟨rfl, rfl⟩
  reply _ := rfl

theorem takeNew_moves (packed : Bool) (num : BitVec 3) (target : f.target = some i) :
    Moves (f, s) ({ f with reply := none }, takeNew i packed num s) := by
  unfold takeNew
  split
  · next vacant => exact (Move.pool f s s.pool none ⟨id, rfl, rfl, fun _ => ⟨rfl, rfl⟩, fun _ => vacant⟩).moves
  · next b held =>
    have taken := take_kept (x := f.reply) (y := takenBuffer i s.table[i].address num packed s.pool.buffers[b]) held rfl rfl
    refine (Move.pool f s _ none taken).moves.trans ?_
    exact modEntry_moves (f := { f with reply := none }) (.plain (.inr target) rfl rfl rfl rfl rfl id)

theorem takeReport_moves (packed : Bool) (tag : BitVec 4) (target : f.target = some i) :
    Moves (f, s) ({ f with reply := none }, takeReport i packed tag s) := by
  unfold takeReport
  split
  · exact releaseReservation_moves f s
  · split
    · exact (takeDuplicate_moves target).trans (actOnMore_moves tag)
    · exact (takeNew_moves packed _ target).trans (actOnMore_moves tag)

/-! ## Deliveries (R107 to R109, R115, R40) -/

/-- An edit of a buffer that leaves its mark and its transmitted flag alone. -/
theorem modBuffer_moves {g : Buffer → Buffer} {b : BufIx} (mark : ∀ x, (g x).mark = x.mark)
    (sent : ∀ x, (g x).transmitted = x.transmitted) : Moves (f, s) (f, modBuffer b g s) := by
  refine pool_moves f s _ ⟨id, rfl, rfl, fun d => ?_, id⟩
  dsimp only
  rw [buffers_set_getElem]
  split
  · next same => exact same ▸ ⟨mark _, sent _⟩
  · exact ⟨rfl, rfl⟩

/-- A message carried goes back to QUEUED (R109, R68). -/
theorem requeue_moves {c : Carried} (message : f.message = some c) :
    Moves (f, s) ({ f with message := none }, setMark c.buffer .queued s) := by
  have clears : Marking s.pool c.buffer { s.pool.buffers[c.buffer] with mark := .queued } f.message none := by
    rw [message]
    exact .clear _ rfl rfl rfl
  exact (Move.mark f s c.buffer _ none clears nofun).moves

section
variable {b : BufIx} (target : f.target = some i) (message : f.message = some (.toEntry i b))
include target message

/-- The message carried leaves its list, with its record. -/
theorem carried_departs (c : EventCode) (d : Nat) : Moves (f, s) ({ f with message := none }, departWith i b c d s) := by
  refine departWith_moves c d (.inr target) ?_
  rw [message]
  exact .carried

theorem acceptEnd_moves : Moves (f, s) ({ f with message := none }, acceptEnd i b s) := by
  have leaves : Leaving s.pool b (.toEntry i b) f.message none := message ▸ .carried
  exact ((depart_moves (.inr target) leaves).trans
    (modEntry_moves (.plain (.inr target) rfl rfl rfl rfl rfl id))).trans (postEntry_moves _ _ _ _ _ _)

theorem refuseEnd_moves : Moves (f, s) ({ f with message := none }, refuseEnd i b s) := by
  unfold refuseEnd
  split <;> exact carried_departs target message _ _

theorem busyEnd_moves : Moves (f, s) ({ f with message := none }, busyEnd i b s) := by
  have backed : Moves (f, s) (f, modEntry i (fun e => { e with backoff := s.params.backoff }) s) :=
    modEntry_moves (.plain (.inr target) rfl rfl rfl rfl rfl id)
  unfold busyEnd
  dsimp only
  split
  · exact backed.trans (carried_departs target message _ _)
  · have counted := backed.trans (modBuffer_moves (b := b) (g := fun x => { x with busyCount := satInc 15 x.busyCount })
      (fun _ => rfl) fun _ => rfl)
    split
    · exact counted.trans (requeue_moves message)
    · exact counted.trans (carried_departs target message _ _)

/-- The pool's part in the good end of a DELIVER, by a reply that answers it (R105). -/
theorem deliverEnd_moves {k : ReplyKind} (answers : k = .accept ∨ k = .busy ∨ k = .refuse) :
    Moves (f, s) ({ f with message := none }, deliverEnd i b k s) := by
  rcases answers with rfl | rfl | rfl
  · exact acceptEnd_moves target message
  · unfold deliverEnd
    dsimp only
    split
    · exact carried_departs target message _ _
    · exact busyEnd_moves target message
  · unfold deliverEnd
    dsimp only
    split
    · exact carried_departs target message _ _
    · exact refuseEnd_moves target message

/-- What an abandonment does with the message of a DELIVER (R68). -/
theorem abandonMessage_moves : Moves (f, s) ({ f with message := none }, abandonMessage i b s) := by
  unfold abandonMessage
  split
  · exact carried_departs target message _ _
  · exact requeue_moves message

end

theorem departBroadcast_moves {b : BufIx} {m : Option Carried} (h : Leaving s.pool b (.toAll b) f.message m) :
    Moves (f, s) ({ f with message := m }, departBroadcast b s) :=
  (Move.departAll f s b _ m h).moves.trans (bufferFreed_moves _ _)

end

/-! ## The sweep (R141 to R148) -/

/-- The sweep record after a decided outcome (R145, R147): the cursor up below the last address; at it an ACTIVE sweep completes; a
STOPPING sweep ends. -/
def Sweep.decided (w : Sweep) : Sweep :=
  let place := if w.cursor < w.last then w.cursor + 1 else w.cursor
  match w.state with
  | .idle => w
  | .active => if w.cursor < w.last then { w with cursor := place } else { w with state := .idle }
  | .stopping => { w with state := .idle, cursor := place }

/-- The record a decided outcome closes with: SWEEP_DONE, COMPLETE, or STOPPED at the cursor's last place. -/
def Sweep.closing (w : Sweep) : List Event :=
  match w.state with
  | .idle => []
  | .active => if w.cursor < w.last then [] else [plainEvent .sweepDone 0 0#8 1]
  | .stopping => [plainEvent .sweepDone w.decided.cursor 0#8 2]

/-- A decided outcome in one piece: the sweep record, and then the closing record. -/
theorem sweepDecided_eq (s : State) : sweepDecided s = (withSweep s.sweep.decided s).posting s.sweep.closing := by
  unfold sweepDecided Sweep.closing Sweep.decided
  dsimp only
  cases state : s.sweep.state <;> by_cases below : s.sweep.cursor < s.sweep.last <;> simp only [below, if_true, if_false] <;> rfl

theorem sweepUndecided_eq (s : State) : sweepUndecided s =
    if s.sweep.state = .stopping then
      (withSweep { s.sweep with outstanding := false, state := .idle } s).posting [plainEvent .sweepDone s.sweep.cursor 0#8 2]
    else probeEnded s := by
  unfold sweepUndecided
  dsimp only
  cases state : s.sweep.state <;> rfl

theorem decided_lawful {w : Sweep} {x : Option Nat} (law : w.Lawful x) : Sweep.Lawful none { w with outstanding := false }.decided := by
  obtain ⟨range, _⟩ := law
  cases state : w.state with
  | idle => simp [Sweep.decided, Sweep.Lawful]
  | stopping => simp [Sweep.decided, Sweep.Lawful]
  | active =>
    obtain ⟨low, le, high⟩ := range (by simp [state])
    by_cases below : w.cursor < w.last
    · simp only [Sweep.decided, Sweep.Lawful, below, if_true]
      exact ⟨fun _ => ⟨Nat.le_add_left 1 _, below, high⟩, nofun, nofun, nofun⟩
    · simp [Sweep.decided, Sweep.Lawful, below]

section
variable {f : Flight} {s : State}

/-- A probe's decided outcome ends the exchange's hold of the address it probed. -/
theorem sweepDecided_moves : Moves (f, s) ({ f with probed := none }, sweepDecided (probeEnded s)) := by
  rw [sweepDecided_eq]
  exact (Move.sweep f s _ none decided_lawful).moves.trans (posting_moves _ _ _)

theorem sweepUndecided_moves : Moves (f, s) ({ f with probed := none }, sweepUndecided s) := by
  have ended : s.sweep.Lawful f.probed → Sweep.Lawful none { s.sweep with outstanding := false, state := .idle } :=
    fun _ => ⟨fun running => absurd rfl running, nofun, nofun, nofun⟩
  have goesOn (state : s.sweep.state ≠ .stopping) : s.sweep.Lawful f.probed → Sweep.Lawful none { s.sweep with outstanding := false } :=
    fun law => ⟨law.1, nofun, nofun, fun stops => absurd stops state⟩
  rw [sweepUndecided_eq]
  split
  · exact (Move.sweep f s _ none ended).moves.trans (posting_moves _ _ _)
  · next state => exact (Move.sweep f s _ none (goesOn state)).moves

theorem post_probeEnded (e : Event) (s : State) : post e (probeEnded s) = probeEnded (post e s) := by
  simp only [post_eq]
  rfl

theorem sweepFailure_moves (a : Nat) (r : Reason) : Moves (f, s) ({ f with probed := none }, sweepFailure a r s) := by
  unfold sweepFailure
  split
  · exact sweepUndecided_moves
  · exact sweepDecided_moves
  · rw [post_probeEnded]
    exact (post_moves _ _ _).trans sweepDecided_moves

theorem sweepIdent_moves {a : Nat} (d : Ident) (probed : f.probed = some a) (fresh : holderOf a s = none) :
    Moves (f, s) ({ f with probed := none }, sweepIdent a d s) := by
  unfold sweepIdent
  dsimp only
  split
  · split
    · next i found =>
      have vacant : s.table[i].state = .empty := lowestEmpty_state (s := probeEnded s) found
      have added : Occupying f.probed s i (autoAddedEntry a d) :=
        ⟨vacant, ⟨nofun, nofun, nofun⟩, ⟨rfl, rfl, rfl, rfl⟩, ⟨rfl, rfl⟩, fresh, .inr probed⟩
      have told : wake (withEntry i (autoAddedEntry a d) (probeEnded s)) = probeEnded (wake (withEntry i (autoAddedEntry a d) s)) := rfl
      rw [told, post_probeEnded]
      exact (((Move.occupy f s i _ added).moves.trans (wake_moves _ _)).trans (post_moves _ _ _)).trans sweepDecided_moves
    · rw [post_probeEnded]
      exact (post_moves _ _ _).trans sweepDecided_moves
  · rw [post_probeEnded]
    exact (post_moves _ _ _).trans sweepDecided_moves

theorem probeIdent_moves {a : Nat} (d : Ident) (probed : f.probed = some a) (target : f.target = none) (message : f.message = none) :
    Moves (f, s) ({ f.settled with probed := none }, probeIdent a d s) := by
  have settled : f.settled = f := by
    unfold Flight.settled
    rw [← message, ← target]
  unfold probeIdent
  split
  · next i found =>
    obtain ⟨occupied, _⟩ := holderOf_spec found
    have noted : Moves (f, s) (f, modEntry i (fun e => { e with ident := some d }) s) :=
      modEntry_moves (.plain (.inl occupied) rfl rfl rfl rfl rfl id)
    refine (noted.trans (goodOutcome_moves message (.inr ⟨target, ?_⟩))).trans sweepDecided_moves
    rw [modEntry_table, table_set_same]
    exact occupied
  · next fresh =>
    rw [settled]
    exact sweepIdent_moves d probed fresh

end

end Sys2Proof.Machine

/-! SUPPORT. The scheduler's look as moves: with no exchange in flight a look is moves alone, or moves up to the start of one
exchange, which then has all its parts, and moves after it. -/

namespace Sys2Proof.Machine

/-! ## The start of an exchange (R49) -/

/-- The engine's and line control's part in a start: the record, SETTLE_WAIT and the quiet request. -/
def begun (x : Exchange) (s : State) : State :=
  quietRequest { s with engine := { s.engine with state := .settleWait, record := some { exch := x } } }

/-- Moves that leave nothing in flight. -/
def Idles (s t : State) : Prop := Moves ({}, s) ({}, t)

/-- Moves that bring the parts of one exchange, its start, and moves after it. -/
def Starts (s t : State) : Prop := ∃ x u, Moves ({}, s) (x.flight, u) ∧ Moves (x.flight, begun x u) (x.flight, t)

/-- What a claim that answers whether it started an exchange does. -/
def Claims (s : State) (r : Bool × State) : Prop := (r.1 = true → Starts s r.2) ∧ (r.1 = false → Idles s r.2)

theorem Idles.trans {s t u : State} (h : Idles s t) (g : Idles t u) : Idles s u := Moves.trans h g

theorem Idles.starts {s t u : State} (h : Idles s t) : Starts t u → Starts s u :=
  fun ⟨x, v, before, after⟩ => ⟨x, v, Moves.trans h before, after⟩

theorem Starts.moves {s t u : State} (h : Starts s t) (g : ∀ f : Flight, Moves (f, t) (f, u)) : Starts s u := by
  obtain ⟨x, v, before, after⟩ := h
  exact ⟨x, v, before, after.trans (g _)⟩

theorem Idles.claims {s t : State} (h : Idles s t) {r : Bool × State} (g : Claims t r) : Claims s r :=
  ⟨fun yes => h.starts (g.1 yes), fun no => h.trans (g.2 no)⟩

theorem Claims.started {s t : State} (h : Starts s t) : Claims s (true, t) := ⟨fun _ => h, nofun⟩

theorem Claims.declined {s t : State} (h : Idles s t) : Claims s (false, t) := ⟨nofun, fun _ => h⟩

/-- The table's flag for the target of an exchange that starts (R28). -/
theorem aim_moves {f : Flight} {s : State} {i : EntryIx} (target : f.target = none) (message : f.message = none)
    (occupied : s.table[i].state ≠ .empty) :
    Moves (f, s) ({ f with target := some i }, modEntry i (fun e => { e with inFlight := true }) s) := by
  refine (Move.edit f s i { s.table[i] with inFlight := true } (some i) ⟨⟨fun _ => ⟨occupied, rfl⟩, fun o => .inr ⟨o, rfl⟩, id⟩,
    .inl occupied, .rfl, fun _ => rfl, rfl, ?_⟩ (.inr message)).moves
  rw [target]
  exact .set rfl

theorem startPoll_starts {s : State} {i : EntryIx} {b : BufIx} (occupied : s.table[i].state ≠ .empty)
    (aimed : Moves ({}, s) ({ reply := some b }, s)) : Starts s (startExchange (.poll i b) s) :=
  ⟨.poll i b, _, aimed.trans (aim_moves rfl rfl occupied), .refl _⟩

theorem startDeliver_starts {s : State} {i : EntryIx} {b : BufIx} (occupied : s.table[i].state ≠ .empty) (head : headOf i s = some b) :
    Starts s (startExchange (.deliver i b) s) := by
  have aimed := aim_moves (f := {}) rfl rfl occupied
  have marks : Marking s.pool b { s.pool.buffers[b] with mark := .inFlight } none (some (.toEntry i b)) :=
    .start _ rfl head nofun rfl
  have marked := Move.mark { target := some i } (modEntry i (fun e => { e with inFlight := true }) s) b
    { s.pool.buffers[b] with mark := .inFlight } (some (.toEntry i b)) marks
    fun j c carried => by cases carried; exact .inr rfl
  exact ⟨.deliver i b, _, aimed.trans marked.moves, .refl _⟩

theorem startBroadcast_starts {s : State} {b : BufIx} (head : s.pool.broadcast.head? = some b) :
    Starts s (startExchange (.broadcast b) s) := by
  have marks : Marking s.pool b { s.pool.buffers[b] with mark := .inFlight } none (some (.toAll b)) := .start _ rfl head nofun rfl
  exact ⟨.broadcast b, _, (Move.mark {} s b _ _ marks nofun).moves, .refl _⟩

/-! ## POLLs (R78, R86) -/

theorem reserved_kept {p : Pool} {b : BufIx} {y : Buffer} {x : Option BufIx} (free : b ∉ p.held) (mark : y.mark = p.buffers[b].mark)
    (sent : y.transmitted = p.buffers[b].transmitted) :
    PoolKept p { p with buffers := p.buffers.set b y, reserved := some b } x (some b) where
  nodup law := by
    have released := held_release p law
    have same : { p with buffers := p.buffers.set b y, reserved := some b }.held.Perm (b :: { p with reserved := none }.held) := by
      refine List.perm_iff_count.2 fun c => ?_
      simp only [Pool.held, Option.toList_some, Option.toList_none, List.count_append, List.count_nil, List.count_cons]
      omega
    refine same.nodup_iff.2 (List.nodup_cons.2 ⟨fun listed => free ?_, released⟩)
    simp only [Pool.held, Option.toList_none, List.append_nil, List.mem_append] at listed ⊢
    tauto
  outbound := rfl
  broadcast := rfl
  marks c := by
    dsimp only
    rw [buffers_set_getElem]
    split
    · next same => exact same ▸ ⟨mark, sent⟩
    · exact ⟨rfl, rfl⟩
  reply _ := rfl

theorem reserve_moves {s : State} {b : BufIx} (free : s.pool.lowestFree = some b) :
    Moves ({}, s) ({ reply := some b }, reserve b s) := by
  have taken := reserved_kept (y := { s.pool.buffers[b] with payload := [] }) (x := none) (lowestFree_not_held free) rfl rfl
  exact (Move.pool {} s _ (some b) taken).moves.trans (sched_moves _ _ { s.sched with exhausted := false } rfl id)

theorem deferPoll_moves (f : Flight) (i : EntryIx) (s : State) : Moves (f, s) (f, deferPoll i s) := by
  unfold deferPoll
  split
  · exact .refl _
  · exact (sched_moves f s { s.sched with exhausted := true } rfl id).trans (postEntry_moves _ _ _ _ _ _)

theorem tryPoll_claims {s : State} {i : EntryIx} (occupied : s.table[i].state ≠ .empty) : Claims s (tryPoll i s) := by
  unfold tryPoll
  split
  · next b free =>
    refine .started ⟨.poll i b, _, (reserve_moves free).trans (aim_moves rfl rfl ?_), .refl _⟩
    exact occupied
  · exact .declined (deferPoll_moves _ i s)

/-- A POLL started or deferred changes no more of the scheduler's record than the pool-exhausted latch. -/
theorem tryPoll_sched (i : EntryIx) (s : State) : ∃ e, (tryPoll i s).2.sched = { s.sched with exhausted := e } := by
  unfold tryPoll
  split
  · exact ⟨false, rfl⟩
  · unfold deferPoll
    split
    · exact ⟨s.sched.exhausted, rfl⟩
    · exact ⟨true, by simp [postEntry]⟩

theorem backoffStep_moves {f : Flight} {i : EntryIx} {s : State} (occupied : s.table[i].state ≠ .empty) :
    Moves (f, s) (f, backoffStep i s) := by
  unfold backoffStep
  split
  · exact modEntry_moves (.plain (.inl occupied) rfl rfl rfl rfl rfl id)
  · exact .refl _

/-- An edit that leaves the entry's state alone leaves that of every entry alone. -/
theorem modEntry_state_kept {g : Entry → Entry} (state : ∀ e, (g e).state = e.state) (i j : EntryIx) (s : State) :
    (modEntry i g s).table[j].state = s.table[j].state := by
  rw [modEntry_table, table_set_getElem]
  split
  · next same => exact same ▸ state _
  · rfl

theorem backoffStep_state (i j : EntryIx) (s : State) : (backoffStep i s).table[j].state = s.table[j].state := by
  unfold backoffStep
  split
  · refine modEntry_state_kept (fun e => ?_) i j s
    rfl
  · rfl

theorem backoffStep_sched (i : EntryIx) (s : State) : (backoffStep i s).sched = s.sched := by
  unfold backoffStep
  split <;> rfl

/-! ## The choice (R83) -/

theorem chooseFor_poll {recovery : Bool} {i : EntryIx} {s : State} (h : chooseFor recovery i s = .poll) : s.table[i].state ≠ .empty := by
  intro empty
  unfold chooseFor at h
  rw [empty] at h
  cases h

theorem chooseFor_deliver {recovery : Bool} {i : EntryIx} {s : State} {b : BufIx} (h : chooseFor recovery i s = .deliver b) :
    s.table[i].state ≠ .empty ∧ headOf i s = some b := by
  unfold chooseFor at h
  split at h
  case h_7 online =>
    refine ⟨ne_of_eq_of_ne online nofun, ?_⟩
    split at h
    · split at h
      · next c head => exact head.trans (congrArg some (Choice.deliver.inj h))
      · cases h
    · cases h
  case h_6 => split at h <;> cases h
  all_goals cases h

/-! ## Claim 2 (R93) -/

/-- The urgent list replaced. -/
def withUrgent (l : List EntryIx) (s : State) : State := { s with sched := { s.sched with urgent := l } }

theorem dropIneligible_moves (f : Flight) (l : List EntryIx) (s : State) : Moves (f, withUrgent l s) (f, dropIneligible l s) := by
  induction l generalizing s with
  | nil => exact .refl _
  | cons i rest ih =>
    unfold dropIneligible
    split
    · split
      · next empty => exact (Move.skipped f (withUrgent (i :: rest) s) i rest rfl empty).moves.trans (ih s)
      · next occupied =>
        exact (Move.served f (withUrgent (i :: rest) s) i rest rfl occupied).moves.trans
          (ih (modEntry i (fun e => { e with urgentListed := false }) s))
    · exact .refl _

theorem servedHead_moves (f : Flight) {i : EntryIx} {rest : List EntryIx} {s : State} (head : s.sched.urgent = i :: rest)
    (occupied : s.table[i].state ≠ .empty) : Moves (f, s) (f, servedHead i s) := by
  have tail : s.sched.urgent.tail = rest := by rw [head]; rfl
  unfold servedHead
  rw [tail]
  exact (Move.served f s i rest head occupied).moves

theorem urgentDeferred_moves (f : Flight) (d : Option EntryIx) (s : State) :
    Moves (f, s) (f, { s with sched := { s.sched with urgentDeferred := d } }) := sched_moves f s _ rfl id

theorem tryPoll_state (i j : EntryIx) (s : State) : (tryPoll i s).2.table[j].state = s.table[j].state := by
  unfold tryPoll
  split
  · next b _ => exact modEntry_state_kept (g := fun e => { e with inFlight := true }) (fun _ => rfl) i j (reserve b s)
  · unfold deferPoll
    split <;> simp [postEntry]

/-- The POLL of the served head: its backoff step, the POLL, and its leaving of the list, or its place there remembered. -/
theorem servedPoll_claims {s : State} {i : EntryIx} {rest : List EntryIx} (head : s.sched.urgent = i :: rest)
    (occupied : s.table[i].state ≠ .empty) : Claims s (match tryPoll i (backoffStep i s) with
      | (true, s2) => (true, servedHead i s2)
      | (false, s2) => (false, { s2 with sched := { s2.sched with urgentDeferred := some i } })) := by
  have stepped : Idles s (backoffStep i s) := backoffStep_moves occupied
  have still : (backoffStep i s).table[i].state ≠ .empty := by rwa [backoffStep_state]
  have claimed := stepped.claims (tryPoll_claims still)
  obtain ⟨e, sched⟩ := tryPoll_sched i (backoffStep i s)
  have listed : (tryPoll i (backoffStep i s)).2.sched.urgent = i :: rest := by rw [sched, backoffStep_sched, head]
  have there : (tryPoll i (backoffStep i s)).2.table[i].state ≠ .empty := by rwa [tryPoll_state]
  split
  · next s2 tried =>
    rw [tried] at claimed listed there
    exact .started ((claimed.1 rfl).moves fun f => servedHead_moves f listed there)
  · next s2 tried =>
    rw [tried] at claimed
    exact .declined ((claimed.2 rfl).trans (urgentDeferred_moves _ _ _))

theorem urgentClaim_claims (s : State) : Claims s (urgentClaim s) := by
  have dropped : Idles s (dropIneligible s.sched.urgent s) := dropIneligible_moves {} s.sched.urgent s
  unfold urgentClaim
  dsimp only
  split
  · exact .declined dropped
  · next i rest head =>
    split
    · next b chosen =>
      obtain ⟨occupied, first⟩ := chooseFor_deliver chosen
      have served : Idles _ _ := servedHead_moves {} head occupied
      refine .started (dropped.starts (served.starts (startDeliver_starts ?_ first)))
      unfold servedHead
      rw [modEntry_table, table_set_same]
      exact occupied
    · next chosen => exact dropped.claims (servedPoll_claims head (chooseFor_poll chosen))
    · exact .declined dropped

/-! ## Claim 3 (R90, R140) -/

theorem skipHeld_range (s : State) (n c : Nat) : c ≤ skipHeld s n c ∧ skipHeld s n c ≤ c + n := by
  induction n generalizing c with
  | zero => exact ⟨Nat.le_refl _, Nat.le_refl _⟩
  | succ n ih =>
    obtain ⟨low, high⟩ := ih (c + 1)
    unfold skipHeld
    split <;> omega

/-- The sweep's choice: a free address of the range to probe, or the end of the sweep. -/
theorem sweepChoice_moves {s : State} (active : s.sweep.state = .active) :
    Moves ({}, s) ({ probed := (sweepChoice s).1 }, (sweepChoice s).2) := by
  have skipped := skipHeld_range s (s.sweep.last - s.sweep.cursor) s.sweep.cursor
  have ends (c : Nat) : s.sweep.Lawful none → Sweep.Lawful none { s.sweep with cursor := c, state := .idle } :=
    fun law => ⟨fun running => absurd rfl running, fun probing => absurd (law.2.1 probing).2 nofun, nofun, nofun⟩
  have probes (c : Nat) (low : s.sweep.cursor ≤ c) (high : c ≤ s.sweep.cursor + (s.sweep.last - s.sweep.cursor)) :
      s.sweep.Lawful none → Sweep.Lawful (some c) { s.sweep with cursor := c, outstanding := true } := by
    intro law
    have running : s.sweep.state ≠ .idle := ne_of_eq_of_ne active nofun
    refine ⟨fun _ => ?_, fun _ => ⟨running, rfl⟩, fun _ => rfl, fun _ => rfl⟩
    have range := law.1 running
    dsimp only
    omega
  unfold sweepChoice sweepComplete withSweep
  dsimp only
  split
  · exact (Move.sweep {} s _ none (ends _)).moves.trans (post_moves _ _ _)
  · exact (Move.sweep {} s _ (some _) (probes _ skipped.1 skipped.2)).moves

theorem sweepClaim_claims (s : State) : Claims s (sweepClaim s) := by
  unfold sweepClaim
  split
  · next asked =>
    have chosen := sweepChoice_moves asked.1
    split
    · next a s1 offered =>
      rw [offered] at chosen
      have spent : Moves ({ probed := some a }, s1) ({ probed := some a },
          { s1 with sched := { s1.sched with credit := decide (s1.sched.walk = .dormant) } }) :=
        sched_moves _ _ _ rfl fun ⟨low, high, count, _, paced, running⟩ => ⟨low, high, count, decide_eq_true, paced, running⟩
      exact .started ⟨.probe a, _, chosen.trans spent, .refl _⟩
    · next s1 finished =>
      rw [finished] at chosen
      exact .declined chosen
  · exact .declined (.refl _)

/-! ## Claim 4 (R80 to R87) -/

/-- The pool-exhausted latch and the pace timer are all of the scheduler's record that a visit's choice touches. -/
def PassedOver (s t : State) : Prop := ∃ e p, t.sched = { s.sched with exhausted := e, paceTimer := p }

theorem carryOut_sched (i : EntryIx) (s : State) : PassedOver s (carryOut i s).2 := by
  unfold carryOut
  split
  · exact ⟨_, _, rfl⟩
  · exact ⟨_, _, rfl⟩
  · exact ⟨_, _, rfl⟩
  · obtain ⟨e, sched⟩ := tryPoll_sched i (backoffStep i s)
    rw [backoffStep_sched] at sched
    split <;> rename_i tried <;> rw [tried] at sched <;> exact ⟨e, _, sched⟩

theorem carryOut_claims (i : EntryIx) (s : State) :
    ((carryOut i s).1 = .started → Starts s (carryOut i s).2) ∧ ((carryOut i s).1 ≠ .started → Idles s (carryOut i s).2) := by
  unfold carryOut
  split
  · exact ⟨nofun, fun _ => .refl _⟩
  · exact ⟨nofun, fun _ => .refl _⟩
  · next b chosen =>
    obtain ⟨occupied, head⟩ := chooseFor_deliver chosen
    exact ⟨fun _ => startDeliver_starts occupied head, fun h => absurd rfl h⟩
  · next chosen =>
    have occupied := chooseFor_poll chosen
    have stepped : Idles s (backoffStep i s) := backoffStep_moves occupied
    have claimed := stepped.claims (tryPoll_claims (i := i) (by rwa [backoffStep_state]))
    split
    · next s1 tried =>
      rw [tried] at claimed
      exact ⟨fun _ => claimed.1 rfl, fun h => absurd rfl h⟩
    · next s1 tried =>
      rw [tried] at claimed
      refine ⟨fun h => ?_, fun _ => claimed.2 rfl⟩
      dsimp only at h
      split at h <;> cases h

/-- The visit of a slot up to the run: the pace load at slot 0, and the choice carried out. -/
def visited (s : State) : Fruit × State :=
  let s1 := if s.sched.pointer = 0 then loadPace s else s
  match s1.sched.ring[s1.sched.pointer] with
  | none => (.barren, s1)
  | some i => carryOut i s1

theorem visit_eq (s : State) : visit s =
    ((visited s).1, { (visited s).2 with sched := { (visited s).2.sched with run := (visited s).2.sched.run.after (visited s).1 } }) := rfl

theorem paced_idles {s : State} (walking : s.sched.walk = .walking) : Idles s (if s.sched.pointer = 0 then loadPace s else s) := by
  have waitless : s.sched.walk ≠ .paceWait := ne_of_eq_of_ne walking nofun
  split
  · exact sched_moves _ _ _ rfl fun ⟨low, high, count, dormant, _, running⟩ =>
      ⟨low, high, count, dormant, fun waits => absurd waits waitless, running⟩
  · exact .refl _

theorem paced_sched (s : State) : PassedOver s (if s.sched.pointer = 0 then loadPace s else s) := by
  split
  · exact ⟨_, _, rfl⟩
  · exact ⟨_, _, rfl⟩

theorem PassedOver.trans {s t u : State} (h : PassedOver s t) (g : PassedOver t u) : PassedOver s u := by
  obtain ⟨e, p, first⟩ := h
  obtain ⟨e', p', second⟩ := g
  exact ⟨e', p', by rw [second, first]⟩

theorem visited_sched (s : State) : PassedOver s (visited s).2 := by
  unfold visited
  dsimp only
  split
  · exact paced_sched s
  · exact (paced_sched s).trans (carryOut_sched _ _)

theorem visited_claims {s : State} (walking : s.sched.walk = .walking) :
    ((visited s).1 = .started → Starts s (visited s).2) ∧ ((visited s).1 ≠ .started → Idles s (visited s).2) := by
  have paced := paced_idles walking
  unfold visited
  dsimp only
  split
  · exact ⟨nofun, fun _ => paced⟩
  · next i _ =>
    obtain ⟨starts, idles⟩ := carryOut_claims i (if s.sched.pointer = 0 then loadPace s else s)
    exact ⟨fun h => paced.starts (starts h), fun h => paced.trans (idles h)⟩

/-- The scheduler's record after a visit that made the run what it is, and the advance (R80, R81). -/
theorem advanceSlot_sched (s : State) : ∃ p c k, (advanceSlot s).2 = { s with sched := { s.sched with
    pointer := p, passCount := c, credit := k } } := by
  unfold advanceSlot
  split
  · exact ⟨_, _, _, rfl⟩
  · exact ⟨_, _, _, rfl⟩

/-- A run that has been emptied may go on from any slot. -/
theorem emptied_moves {f : Flight} {s : State} {p : SlotIx} {c : Word} {k : Bool} (walking : s.sched.walk = .walking) :
    Moves (f, s) (f, { s with sched := { s.sched with run := {}, pointer := p, passCount := c, credit := k } }) := by
  refine sched_moves _ _ _ rfl fun ⟨low, high, _, _, _, _⟩ => ⟨low, high, Nat.zero_le _, ?_, ?_, fun _ => low⟩
  · exact fun d => absurd (walking.symm.trans d) nofun
  · exact fun d => absurd (walking.symm.trans d) nofun

/-- The run goes up by no more than one at a visit. -/
theorem run_after_count (r : Run) (v : Fruit) : (r.after v).count ≤ r.count + 1 := by
  cases v <;> simp [Run.after]

/-- A run that goes on, and what becomes of it once it has gone round the ring (R87). -/
theorem endRun_moves {f : Flight} {s : State} {r : Run} {p : SlotIx} {c : Word} {k : Bool} (walking : s.sched.walk = .walking)
    (count : r.count ≤ s.sched.run.count + 1) : Moves (f, s) (f,
      endRun { s with sched := { s.sched with run := r, pointer := p, passCount := c, credit := k } }) := by
  have noneDormant : s.sched.walk ≠ .dormant := ne_of_eq_of_ne walking nofun
  have noneWaits : s.sched.walk ≠ .paceWait := ne_of_eq_of_ne walking nofun
  have longest (law : s.SchedulerLaw) : r.count ≤ 64 := by
    obtain ⟨_, high, _, _, _, running⟩ := law
    have short := running (.inl walking)
    omega
  unfold endRun
  split
  · next short =>
    exact sched_moves _ _ _ rfl fun law => ⟨law.1, law.2.1, longest law, fun d => absurd d noneDormant,
      fun d => absurd d noneWaits, fun _ => short⟩
  · split
    · exact sched_moves _ _ { s.sched with run := r, pointer := p, passCount := c, credit := k, walk := .bufferWait } rfl fun law =>
        ⟨law.1, law.2.1, longest law, nofun, nofun, fun d => by rcases d with d | d <;> cases d⟩
    · split
      · exact emptied_moves walking
      · exact sched_moves _ _ { s.sched with run := r, pointer := p, passCount := c, credit := true, walk := .dormant } rfl fun law =>
          ⟨law.1, law.2.1, longest law, fun _ => rfl, nofun, fun d => by rcases d with d | d <;> cases d⟩

/-- What a move of the walk does, by how the walk goes on. -/
def Walks (s : State) (r : Walked × State) : Prop := (r.1 = .started → Starts s r.2) ∧ (r.1 = .again → Idles s r.2)

theorem returnToSweep_walks {s t : State} (h : Idles s t) : Walks s (returnToSweep t) := by
  have claimed := h.claims (sweepClaim_claims t)
  unfold returnToSweep
  split <;> rename_i asked <;> rw [asked] at claimed
  · exact ⟨fun _ => claimed.1 rfl, nofun⟩
  · exact ⟨nofun, fun _ => claimed.2 rfl⟩

theorem walkMove_walks {s : State} (walking : s.sched.walk = .walking) : Walks s (walkMove s) := by
  unfold walkMove
  split
  · refine returnToSweep_walks (sched_moves _ _ _ rfl fun ⟨low, high, count, _, _, running⟩ => ⟨low, high, count, ?_, ?_, running⟩)
    · exact fun _ => rfl
    · exact fun d => absurd (walking.symm.trans d) nofun
  · split
    · next atZero =>
      refine ⟨nofun, fun _ => sched_moves _ _ _ rfl fun ⟨low, high, count, _, _, running⟩ =>
        ⟨low, high, count, nofun, fun _ => atZero, fun _ => running (.inl walking)⟩⟩
    · rw [visit_eq]
      dsimp only
      obtain ⟨e, t, sched⟩ := visited_sched s
      obtain ⟨starts, idles⟩ := visited_claims walking
      have still : (visited s).2.sched.walk = .walking := by rw [sched]; exact walking
      obtain ⟨p, c, k, advanced⟩ := advanceSlot_sched { (visited s).2 with sched := { (visited s).2.sched with
        run := (visited s).2.sched.run.after (visited s).1 } }
      split
      · next started =>
        refine ⟨fun _ => (starts started).moves fun f => ?_, nofun⟩
        rw [advanced, started]
        exact emptied_moves still
      · next fruitless =>
        have ended : Idles s (endRun (advanceSlot { (visited s).2 with sched := { (visited s).2.sched with
            run := (visited s).2.sched.run.after (visited s).1 } }).2) := by
          refine (idles fruitless).trans ?_
          rw [advanced]
          exact endRun_moves still (run_after_count _ _)
        dsimp only at ended
        split
        · exact returnToSweep_walks ended
        · exact ⟨nofun, fun _ => ended⟩

/-- What a look does: nothing is left in flight, or one exchange is started. -/
def Looks (s t : State) : Prop := Idles s t ∨ Starts s t

theorem Idles.looks {s t u : State} (h : Idles s t) (g : Looks t u) : Looks s u := g.imp h.trans h.starts

theorem walk_looks (n : Nat) (s : State) : Looks s (walk n s) := by
  induction n generalizing s with
  | zero => exact .inl (.refl _)
  | succ n ih =>
    unfold walk
    split
    · next walking =>
      have moved := walkMove_walks walking
      split <;> rename_i went <;> rw [went] at moved
      · exact .inr (moved.1 rfl)
      · exact (moved.2 rfl).looks (ih _)
    · exact .inl (.refl _)

theorem look_looks (s : State) : Looks s (look s) := by
  unfold look
  split
  · next b rest list => exact .inr (startBroadcast_starts (by rw [list]; rfl))
  · have urgent := urgentClaim_claims s
    split <;> rename_i s1 claimed <;> rw [claimed] at urgent
    · exact .inr (urgent.1 rfl)
    · have swept := sweepClaim_claims s1
      split <;> rename_i offered <;> rw [offered] at swept
      · exact .inr ((urgent.2 rfl).starts (swept.1 rfl))
      · exact ((urgent.2 rfl).trans (swept.2 rfl)).looks (walk_looks _ _)

end Sys2Proof.Machine

/-! SUPPORT. The engine, the framer and line control as changes: each of their operations takes a state with the exchange that it has
in flight to one with the exchange that is in flight then. -/

namespace Sys2Proof.Machine

/-- Changes from a state to another, each with the exchange that it has in flight. -/
def Runs (s t : State) : Prop := Changes (s.flight, s) (t.flight, t)

theorem Runs.refl (s : State) : Runs s s := Changes.refl _

theorem Runs.trans {s t u : State} (h : Runs s t) (g : Runs t u) : Runs s u := Changes.trans h g

theorem runs_ite {c : Prop} [Decidable c] {s t u : State} (h : Runs s t) (g : Runs s u) : Runs s (if c then t else u) := by
  split <;> assumption

/-- Changes that leave the exchange in flight alone. -/
theorem Changes.runs {s t : State} {f : Flight} (h : Changes (s.flight, s) (f, t)) (flight : t.flight = f) : Runs s t := by
  unfold Runs
  rw [flight]
  exact h

theorem Moves.runs {s t : State} (h : Moves (s.flight, s) (s.flight, t)) : Runs s t := h.changes.runs h.flight_eq

/-! ## The four parts of control -/

theorem framer_changes (f : Flight) (s : State) (fr : Framer) : Changes (f, s) (f, { s with framer := fr }) :=
  (Control.framer f s fr).changes

/-- A change of line control's record that leaves the counts and the configuration alone. -/
theorem line_changes (f : Flight) (s : State) (l : LineControl) (noise : l.noise = s.line.noise) (stray : l.stray = s.line.stray)
    (count : s.line.contCount ≤ 7 → l.contCount ≤ 7) (cfg : l.cfg = s.line.cfg) : Changes (f, s) (f, { s with line := l }) := by
  refine (Control.line f s l (fun ⟨n, r, c⟩ => ⟨noise ▸ n, stray ▸ r, count c⟩) fun law => ?_).changes
  unfold State.RangeLaw
  dsimp only
  rw [cfg]
  exact law

/-- A change of the engine's timers, kept reports and record that leaves it in IDLE or out of it. -/
theorem engine_changes (f : Flight) (s : State) (e : Engine) (state : e.state = .idle ↔ s.engine.state = .idle)
    (record : e.record = none ↔ s.engine.record = none) : Changes (f, s) (f, { s with engine := e }) :=
  (Control.engine f s e fun law => state.trans (law.trans record.symm)).changes

/-- A change of the engine that leaves it out of IDLE with a record. -/
theorem engaged_changes (f : Flight) (s : State) (e : Engine) {r : InFlight} (state : e.state ≠ .idle) (record : e.record = some r) :
    Changes (f, s) (f, { s with engine := e }) :=
  (Control.engine f s e fun _ => ⟨fun h => absurd h state, fun h => nomatch record.symm.trans h⟩).changes

theorem modFramer_runs (g : Framer → Framer) (s : State) : Runs s (modFramer g s) := framer_changes _ s _

theorem advanceTo_runs (t : Nat) (s : State) : Runs s (advanceTo t s) :=
  (Control.clock _ s _ (Nat.le_max_left _ _)).changes

theorem modRecord_flight {g : InFlight → InFlight} (exch : ∀ r, (g r).exch = r.exch) (s : State) : (modRecord g s).flight = s.flight := by
  unfold State.flight modRecord
  cases s.engine.record with
  | none => rfl
  | some r => exact congrArg Exchange.flight (exch r)

theorem modRecord_changes (f : Flight) (g : InFlight → InFlight) (s : State) : Changes (f, s) (f, modRecord g s) :=
  engine_changes f s _ .rfl (by simp)

theorem modRecord_runs {g : InFlight → InFlight} (exch : ∀ r, (g r).exch = r.exch) (s : State) : Runs s (modRecord g s) :=
  (modRecord_changes _ g s).runs (modRecord_flight exch s)

theorem quietRequest_runs (s : State) : Runs s (quietRequest s) := line_changes _ s _ rfl rfl id rfl

theorem activityNotice_runs (s : State) : Runs s (activityNotice s) := by
  unfold activityNotice
  split
  · exact .refl s
  · exact line_changes _ s _ rfl rfl id rfl

/-! ## The ends (R65 to R70) -/

theorem idleEngine_changes (f : Flight) (s : State) : Changes (f, s) (f, idleEngine s) :=
  (Control.engine f s {} fun _ => ⟨fun _ => rfl, fun _ => rfl⟩).changes

theorem endNotice_changes (f : Flight) (s : State) : Changes (f, s) (f, endNotice s) := by
  rcases endNotice_cases s with ⟨_, h⟩ | ⟨_, h⟩ | ⟨_, h⟩ <;> rw [h]
  · exact (arrival_moves f s).changes
  · exact (line_changes f s { s.line with state := .stopped } rfl rfl id rfl).trans (post_moves f _ _).changes
  · exact .refl _

theorem endNotice_engine (s : State) : (endNotice s).engine = s.engine := by
  rcases endNotice_cases s with ⟨_, h⟩ | ⟨_, h⟩ | ⟨_, h⟩ <;> rw [h] <;> simp

theorem endNotice_runs (s : State) : Runs s (endNotice s) :=
  (endNotice_changes _ s).runs (by simp only [State.flight, endNotice_engine])

theorem endExchange_changes (s : State) : Changes ({}, s) ({}, endExchange s) :=
  (idleEngine_changes {} s).trans (endNotice_changes {} _)

theorem endExchange_flight (s : State) : (endExchange s).flight = {} := by
  unfold endExchange State.flight
  rw [endNotice_engine]
  rfl

/-- The end of an exchange whose parts have all been dealt with. -/
theorem endExchange_runs {s t : State} (h : Moves (s.flight, s) ({}, t)) : Runs s (endExchange t) :=
  (h.changes.trans (endExchange_changes t)).runs (endExchange_flight t)

theorem framerStop_changes (f : Flight) (high : Bool) (s : State) : Changes (f, s) (f, framerStop high s) := framer_changes f s _

/-- Steps 3 to 5 of the abandonment path deal with every part of the exchange (R68). -/
theorem abandonOutcome_moves (x : Exchange) (s : State) : Moves (x.flight, s) ({}, abandonOutcome x s) := by
  cases x with
  | poll i b => exact (releaseReservation_moves _ s).trans (abandonedOutcome_moves rfl rfl)
  | deliver i b => exact (abandonMessage_moves rfl rfl).trans (abandonedOutcome_moves rfl rfl)
  | probe a => exact sweepUndecided_moves
  | broadcast b => exact requeue_moves (c := .toAll b) rfl

theorem abandon_runs (c : Cause) (high : Bool) (s : State) : Runs s (abandon c high s) := by
  unfold abandon
  split
  · exact .refl s
  · next r record =>
    dsimp only
    have told := (framerStop_changes r.exch.flight high s).trans (post_moves _ (abortedEvent r.exch c (framerStop high s)) _).changes
    have ended := (told.trans (abandonOutcome_moves r.exch _).changes).trans (idleEngine_changes {} _)
    refine Changes.runs (f := {}) ?_ rfl
    rw [flight_of_record record]
    exact ended.trans (line_changes {} _ _ rfl rfl id rfl)

theorem withdraw_runs (c : Cause) (s : State) : Runs s (withdraw c s) := (abandon_runs c true s).trans (endNotice_runs _)

theorem withdrawalNotice_runs (c : Cause) (s : State) : Runs s (withdrawalNotice c s) := by
  unfold withdrawalNotice
  split
  · exact withdraw_runs c s
  · exact withdraw_runs c s
  · exact .refl s

theorem post_runs (e : Event) (s : State) : Runs s (post e s) := (post_moves _ e s).runs

theorem withLine_runs (s : State) (l : LineControl) (noise : l.noise = s.line.noise) (stray : l.stray = s.line.stray)
    (count : s.line.contCount ≤ 7 → l.contCount ≤ 7) (cfg : l.cfg = s.line.cfg) : Runs s { s with line := l } :=
  line_changes _ s l noise stray count cfg

theorem lineFault_runs (d : Word) (high : Bool) (s : State) : Runs s (lineFault d high s) := by
  unfold lineFault
  dsimp only
  split
  · exact ((abandon_runs .fault high s).trans (withLine_runs _ { (abandon .fault high s).line with state := .faulted, quiet := none } rfl rfl id rfl)).trans
      (post_runs _ _)
  · exact .refl s

/-! ## Failed attempts and the decision (R60 to R62) -/

theorem failAttempt_runs (r : Reason) (s : State) : Runs s (failAttempt r s) := by
  have recorded : Runs s (modRecord (fun x => { x with lastFailure := some r }) s) := modRecord_runs (fun _ => by rfl) s
  have flight := modRecord_flight (g := fun x => { x with lastFailure := some r }) (fun _ => rfl) s
  unfold failAttempt
  dsimp only
  split
  · exact .refl s
  · next x record =>
    rw [flight_of_record record] at flight
    split <;> rename_i exch <;> rw [exch] at flight
    · refine (recorded.trans (countFailedAttempt_moves (by rw [flight]; rfl)).runs).trans (Moves.runs ?_)
      exact modBuffer_moves (fun _ => rfl) (fun _ => rfl)
    · exact recorded.trans (countFailedAttempt_moves (by rw [flight]; rfl)).runs
    · exact recorded
    · exact recorded

/-- The engine in another state than IDLE, with the record it has. -/
theorem withEngineState_runs {s : State} {r : InFlight} (record : s.engine.record = some r) {e : EngineState} (state : e ≠ .idle) :
    Runs s (withEngineState e s) := engaged_changes _ s _ state record

theorem enterSettle_runs {s : State} {r : InFlight} (record : s.engine.record = some r) : Runs s (enterSettle s) :=
  (withEngineState_runs record (e := .settle) nofun).trans (quietRequest_runs _)

theorem retry_runs {s : State} {r : InFlight} (record : s.engine.record = some r) : Runs s (retry s) :=
  (modRecord_runs (fun _ => by rfl) s).trans (enterSettle_runs (by simp only [modRecord, record, Option.map_some]; rfl))

theorem failedEnd_runs {s : State} {r : InFlight} (record : s.engine.record = some r) : Runs s (failedEnd r.exch s) := by
  have flight := flight_of_record record
  unfold failedEnd
  split <;> rename_i exch <;> rw [exch] at flight
  · refine endExchange_runs ?_
    rw [flight]
    exact (releaseReservation_moves _ s).trans (failedOutcome_moves rfl (.inl rfl))
  · refine endExchange_runs ?_
    rw [flight]
    split
    · next retiring => exact failedOutcome_moves rfl (.inr ⟨retiring, fun c carried => ⟨_, (Option.some.inj carried).symm⟩⟩)
    · exact (requeue_moves rfl).trans (failedOutcome_moves rfl (.inl rfl))
  · exact .refl s
  · exact .refl s

theorem decideRetry_runs {s : State} {r : InFlight} (record : s.engine.record = some r) (i : EntryIx) : Runs s (decideRetry i r s) := by
  unfold decideRetry
  split
  · split
    · exact withdraw_runs _ s
    · exact retry_runs record
  · exact failedEnd_runs record

theorem stopTimers_runs (s : State) : Runs s (stopTimers s) := engine_changes _ s _ .rfl .rfl

theorem decision_runs (s : State) : Runs s (decision s) := by
  refine (stopTimers_runs s).trans ?_
  unfold decision decide60
  split
  · exact .refl _
  · next r record =>
    have flight := flight_of_record record
    split <;> rename_i exch
    · refine endExchange_runs ?_
      rw [flight, exch]
      exact sweepFailure_moves _ _
    · split
      · exact withdraw_runs _ _
      · exact decideRetry_runs record _
    · exact decideRetry_runs record _
    · exact enterSettle_runs record

/-! ## Transmissions (R11, R52) -/

theorem markTransmitted_moves (x : Exchange) (s : State) : Moves (x.flight, s) (x.flight, markTransmitted x s) := by
  cases x with
  | poll i b => exact .refl _
  | deliver i b =>
    have sent : Marking s.pool b { s.pool.buffers[b] with transmitted := true } (some (.toEntry i b)) (some (.toEntry i b)) :=
      .sent (.toEntry i b) rfl rfl
    exact (Move.mark (Exchange.deliver i b).flight s b _ _ sent fun _ _ _ => .inl rfl).moves
  | probe a => exact .refl _
  | broadcast b =>
    have sent : Marking s.pool b { s.pool.buffers[b] with transmitted := true } (some (.toAll b)) (some (.toAll b)) :=
      .sent (.toAll b) rfl rfl
    exact (Move.mark (Exchange.broadcast b).flight s b _ _ sent nofun).moves

theorem markTransmitted_runs {x : Exchange} {s : State} (flight : s.flight = x.flight) : Runs s (markTransmitted x s) := by
  refine Moves.runs ?_
  rw [flight]
  exact markTransmitted_moves x s

theorem buildFrame_runs {s : State} {r : InFlight} (record : s.engine.record = some r) : Runs s (buildFrame r.exch s) := by
  unfold buildFrame
  refine (modRecord_runs (fun _ => by rfl) s).trans (markTransmitted_runs ?_)
  rw [modRecord_flight (fun _ => by rfl), flight_of_record record]

theorem beginTransmission_runs (chars : List Byte) (s : State) : Runs s (beginTransmission chars s) := framer_changes _ s _

theorem transmit_runs (s : State) : Runs s (transmit s) := by
  unfold transmit
  split
  · exact .refl s
  · next r record =>
    dsimp only
    have built : Runs s (match s.engine.state with
        | .settleWait => buildFrame r.exch s
        | _ => s) := by
      split
      · exact buildFrame_runs record
      · exact .refl s
    split
    · exact built
    · next r1 record1 => exact (built.trans (withEngineState_runs record1 (e := .sending) nofun)).trans (beginTransmission_runs _ _)

/-! ## The reply (R53 to R59) -/

theorem discardMode_runs (s : State) : Runs s (discardMode s) := framer_changes _ s _

theorem enterDrain_runs {s : State} {r : InFlight} (record : s.engine.record = some r) : Runs s (enterDrain s) :=
  engaged_changes _ s _ nofun record

/-- A failed attempt leaves the engine a record. -/
theorem failAttempt_record {s : State} {r : InFlight} (record : s.engine.record = some r) (why : Reason) :
    (failAttempt why s).engine.record = some { r with lastFailure := some why } := by
  unfold failAttempt countFailedAttempt
  rw [record]
  dsimp only
  split <;> simp [modRecord, record]

theorem failDrain_runs {s : State} {r : InFlight} (record : s.engine.record = some r) (why : Reason) :
    Runs s (enterDrain (failAttempt why s)) :=
  (failAttempt_runs why s).trans (enterDrain_runs (failAttempt_record record why))

theorem failDiscard_runs {s : State} {r : InFlight} (record : s.engine.record = some r) (why : Reason) :
    Runs s (enterDrain (discardMode (failAttempt why s))) :=
  ((failAttempt_runs why s).trans (discardMode_runs _)).trans (enterDrain_runs (failAttempt_record record why))

theorem failDecide_runs (why : Reason) (s : State) : Runs s (decision (failAttempt why s)) :=
  (failAttempt_runs why s).trans (decision_runs _)

theorem storePayload_runs (x : Exchange) (d : Byte) (s : State) : Runs s (storePayload x d s) := by
  unfold storePayload
  split
  · exact (modBuffer_moves (fun _ => by rfl) (fun _ => by rfl)).runs
  · exact .refl s
  · exact modRecord_runs (fun _ => by rfl) s
  · exact .refl s

/-- The good end of an exchange by a reply that answers it (R59). -/
theorem goodEnd_runs {s : State} {r : InFlight} {k : ReplyKind} (record : s.engine.record = some r)
    (answering : answers r.exch k = true) : Runs s (goodEnd r k s) := by
  have flight := flight_of_record record
  unfold goodEnd
  dsimp only
  split <;> rename_i exch <;> rw [exch] at flight answering
  · split <;> refine endExchange_runs ?_ <;> rw [flight]
    · exact (takeReport_moves _ _ rfl).trans (goodOutcome_moves rfl (.inl rfl))
    · exact (takeReport_moves _ _ rfl).trans (goodOutcome_moves rfl (.inl rfl))
    · exact (releaseReservation_moves _ s).trans (goodOutcome_moves rfl (.inl rfl))
  · refine endExchange_runs ?_
    rw [flight]
    have kind : k = .accept ∨ k = .busy ∨ k = .refuse := by cases k <;> simp [answers] at answering ⊢
    exact (deliverEnd_moves rfl rfl kind).trans (goodOutcome_moves rfl (.inl rfl))
  · refine endExchange_runs ?_
    rw [flight]
    exact probeIdent_moves _ rfl rfl rfl
  · exact .refl s

theorem handleReport_runs (p : Report) (s : State) : Runs s (handleReport p s) := by
  unfold handleReport
  split
  · exact .refl s
  · next r record =>
    split
    · exact runs_ite (engaged_changes _ s { s.engine with state := .receiving, windowEnd := none, takeLimit := none } nofun record)
        (failDiscard_runs record _)
    · split
      · exact failDiscard_runs record _
      · exact .refl s
    · exact failDrain_runs record _
    · exact storePayload_runs _ _ s
    · exact failDrain_runs record _
    · exact failDecide_runs _ s
    · split
      · exact failDecide_runs _ s
      · split
        · exact failDecide_runs _ s
        · split
          · next answering => exact goodEnd_runs record answering
          · exact failDecide_runs _ s
    · exact decision_runs s
    · exact .refl s

theorem engineReport_runs (p : Report) (s : State) : Runs s (engineReport p s) := by
  unfold engineReport
  split
  · exact engine_changes _ s _ .rfl .rfl
  · exact handleReport_runs p s

end Sys2Proof.Machine

/-! SUPPORT. The line-side steps as changes. -/

namespace Sys2Proof.Machine

/-! ## Characters (R2, R15 to R20) -/

theorem countStray_runs (s : State) : Runs s (countStray s) := by
  refine (Control.line _ s { s.line with stray := satInc 65535 s.line.stray } (fun ⟨noise, _, count⟩ => ⟨noise, ?_, count⟩) id).changes
  dsimp only
  rw [satInc_eq_min]
  omega

theorem countNoise_runs (s : State) : Runs s (countNoise s) := by
  refine (Control.line _ s { s.line with noise := satInc 65535 s.line.noise } (fun ⟨_, stray, count⟩ => ⟨?_, stray, count⟩) id).changes
  dsimp only
  rw [satInc_eq_min]
  omega

theorem startEdge_runs (wait : Nat) (s : State) : Runs s (startEdge wait s) := by
  unfold startEdge
  split
  · exact (advanceTo_runs _ s).trans (modFramer_runs _ _)
  · exact .refl s

theorem startEdgeCheck_runs (high : Bool) (s : State) : Runs s (startEdgeCheck high s) := by
  unfold startEdgeCheck
  split
  · next edge _ =>
    have later := advanceTo_runs (edge + halfNow s) s
    dsimp only
    refine runs_ite (later.trans (modFramer_runs _ _)) (runs_ite ?_ (later.trans (modFramer_runs _ _)))
    exact (later.trans (modFramer_runs _ _)).trans (activityNotice_runs _)
  · exact .refl s

theorem watchCharacter_runs (s : State) : Runs s (watchCharacter s) := (countStray_runs s).trans (activityNotice_runs _)

theorem huntCharacter_runs (edge : Nat) (data : Byte) (stop : Bool) (s : State) : Runs s (huntCharacter edge data stop s) :=
  runs_ite ((modFramer_runs _ s).trans (engineReport_runs _ _)) (countNoise_runs s)

theorem collectByte_runs (data : Byte) (s : State) : Runs s (collectByte data s) := by
  have reported (g : Framer → Framer) (p : Report) : Runs s (engineReport p (modFramer g s)) :=
    (modFramer_runs g s).trans (engineReport_runs p _)
  unfold collectByte
  refine runs_ite (modFramer_runs _ s) (runs_ite (modFramer_runs _ s) (runs_ite (runs_ite ?_ ?_) (runs_ite ?_ (runs_ite ?_ ?_))))
  · exact reported _ _
  · exact reported _ _
  · exact reported _ _
  · exact modFramer_runs _ s
  · exact reported _ _

theorem collectCharacter_runs (data : Byte) (stop : Bool) (s : State) : Runs s (collectCharacter data stop s) :=
  runs_ite ((modFramer_runs _ s).trans (collectByte_runs data _))
    (((modFramer_runs _ s).trans (modFramer_runs _ _)).trans (engineReport_runs _ _))

theorem discardCharacter_runs (stop : Bool) (s : State) : Runs s (discardCharacter stop s) := modFramer_runs _ s

theorem completeIn_runs {m : RxMode} {stop : Bool} {f : Nat → State → State} (handled : ∀ edge t, Runs t (f edge t)) (s : State) :
    Runs s (completeIn m stop f s) := by
  unfold completeIn
  split
  · exact runs_ite (((advanceTo_runs _ s).trans (modFramer_runs _ _)).trans (handled _ _)) (.refl s)
  · exact .refl s

theorem breakCharacter_runs (s : State) : Runs s (breakCharacter s) := by
  unfold breakCharacter
  split
  · next since _ =>
    have formed := (advanceTo_runs (since + charNow s) s).trans
      (modFramer_runs (fun f => { f with rx := .low (advanceTo (since + charNow s) s).now }) _)
    dsimp only
    split
    · exact formed.trans (watchCharacter_runs _)
    · exact .refl s
    · exact formed.trans (countNoise_runs _)
    · exact formed.trans (collectCharacter_runs _ _ _)
    · exact formed.trans (discardCharacter_runs _ _)
  · exact .refl s

theorem receiverRearm_runs (wait : Nat) (s : State) : Runs s (receiverRearm wait s) := by
  unfold receiverRearm
  split
  · exact (advanceTo_runs _ s).trans (modFramer_runs _ _)
  · exact .refl s

/-! ## The transmission (R11 to R14, R163) -/

theorem raiseContention_runs (s : State) : Runs s (raiseContention s) := by
  refine runs_ite (withLine_runs s { s.line with contCount := satInc 7 s.line.contCount } rfl rfl (fun _ => ?_) rfl) (.refl s)
  dsimp only
  rw [satInc_eq_min]
  omega

theorem cleanVerdict_runs (s : State) : Runs s (cleanVerdict s) :=
  runs_ite (withLine_runs s { s.line with contCount := 0 } rfl rfl (fun _ => Nat.zero_le _) rfl) (.refl s)

theorem contention_runs (x : Transmission) (stop first : Bool) (s : State) : Runs s (contention x stop first s) := by
  have marked := modFramer_runs (fun f => { f with tx := some { x with contended := true } }) s
  have counted := marked.trans (raiseContention_runs _)
  refine runs_ite (counted.trans (failAttempt_runs _ _)) (runs_ite ?_ (counted.trans (lineFault_runs _ _ _)))
  exact ((marked.trans (failAttempt_runs .contention _)).trans (raiseContention_runs _)).trans (lineFault_runs _ _ _)

theorem echoComparison_runs (start : Bool) (data : Byte) (stop first : Bool) (s : State) :
    Runs s (echoComparison start data stop first s) := by
  unfold echoComparison
  split
  · exact .refl s
  · next x _ =>
    split
    · exact .refl s
    · have later := advanceTo_runs (charEnd x x.compared s - halfNow s) s
      exact runs_ite (runs_ite (later.trans (modFramer_runs _ _)) (later.trans (contention_runs _ _ _ _))) (.refl s)

theorem contentionStop_runs (high : Bool) (s : State) : Runs s (contentionStop high s) := by
  unfold contentionStop
  split
  · exact .refl s
  · exact runs_ite (((advanceTo_runs _ s).trans (modFramer_runs _ _)).trans (decision_runs _)) (.refl s)

theorem frameSent_runs (high : Bool) (s : State) : Runs s (frameSent high s) := by
  unfold frameSent
  split
  · next x r _ record =>
    dsimp only
    refine runs_ite ?_ (.refl s)
    have judged := (advanceTo_runs (charEnd x (x.chars.length - 1) s) s).trans
      (runs_ite (c := x.echoCheck = true) (cleanVerdict_runs _) (.refl _))
    refine (judged.trans (modFramer_runs _ _)).trans (withEngineState_runs (r := r) ?_ nofun)
    split
    · unfold cleanVerdict
      split <;> exact record
    · exact record
  · exact .refl s

/-! ## Release and the limits (R12, R17, R53, R54, R64) -/

theorem broadcastEnd_runs {s : State} {b : BufIx} (flight : s.flight = (Exchange.broadcast b).flight) : Runs s (broadcastEnd b s) := by
  refine endExchange_runs ?_
  rw [flight]
  exact (departBroadcast_moves .carried).trans (post_moves _ _ _)

theorem handleReports_runs (l : List Report) (s : State) : Runs s (l.foldl (fun t p => handleReport p t) s) := by
  induction l generalizing s with
  | nil => exact .refl s
  | cons p rest ih => exact (handleReport_runs p s).trans (ih _)

theorem openWindow_runs {s : State} {r : InFlight} (record : s.engine.record = some r) : Runs s (openWindow s) := by
  refine Runs.trans ?_ (handleReports_runs _ _)
  exact engaged_changes _ s { s.engine with
    state := .await
    windowEnd := some (s.now + s.line.cfg.lreply * charNow s)
    takeLimit := some (s.now + s.line.cfg.lreply * charNow s + charNow s)
    kept := [] } nofun record

theorem released_runs {s : State} {r : InFlight} (record : s.engine.record = some r) : Runs s (released r s) := by
  unfold released
  split
  · next b exch =>
    refine runs_ite (retry_runs record) (broadcastEnd_runs ?_)
    rw [flight_of_record record, exch]
  · exact openWindow_runs record

theorem lineRelease_runs (s : State) : Runs s (lineRelease s) := by
  unfold lineRelease
  split
  · next record => exact ((advanceTo_runs _ s).trans (modFramer_runs _ _)).trans (released_runs record)
  · exact .refl s

theorem gapExpiry_runs (s : State) : Runs s (gapExpiry s) := by
  unfold gapExpiry
  split
  · exact .refl s
  · have ended := (advanceTo_runs ‹Nat› s).trans (modFramer_runs (fun f => { f with mode := .watch, gap := none }) _)
    dsimp only
    split
    · exact ended.trans (engineReport_runs _ _)
    · exact ended.trans (engineReport_runs _ _)
    · exact .refl s

theorem watchMode_runs (s : State) : Runs s (watchMode s) := modFramer_runs _ s

theorem takeLimit_runs (s : State) : Runs s (takeLimit s) := by
  unfold takeLimit
  split
  · exact (((advanceTo_runs _ s).trans (failAttempt_runs _ _)).trans (watchMode_runs _)).trans (decision_runs _)
  · exact .refl s

theorem drainLimit_runs (s : State) : Runs s (drainLimit s) := by
  unfold drainLimit
  split
  · exact ((advanceTo_runs _ s).trans (watchMode_runs _)).trans (decision_runs _)
  · exact .refl s

/-! ## The deadlines of line control (R82, R159, R161) -/

theorem quietDeadline_runs (s : State) : Runs s (quietDeadline s) := by
  unfold quietDeadline
  split
  · exact .refl s
  · next q _ =>
    have ended := (withLine_runs s { s.line with quiet := none } rfl rfl id rfl).trans (advanceTo_runs q.quietAt _)
    dsimp only
    split
    · exact ended.trans (transmit_runs _)
    · exact ended.trans (transmit_runs _)
    · exact ended

theorem babbleDeadline_runs (s : State) : Runs s (babbleDeadline s) := by
  unfold babbleDeadline
  split
  · exact .refl s
  · exact (advanceTo_runs _ s).trans (lineFault_runs _ _ _)

theorem paceExpiry_runs (s : State) : Runs s (paceExpiry s) := by
  unfold paceExpiry
  split
  · exact .refl s
  · next t _ =>
    dsimp only
    split
    · next waits =>
      have walks : Moves (s.flight, s) (s.flight, { s with sched := { s.sched with paceTimer := none, walk := .walking } }) :=
        sched_moves _ s _ rfl fun ⟨low, high, count, _, _, running⟩ =>
          ⟨low, high, count, nofun, nofun, fun _ => running (.inr waits)⟩
      exact (walks.runs.trans (arrival_moves _ _).runs).trans (advanceTo_runs t _)
    · next waitless =>
      have stops : Moves (s.flight, s) (s.flight, { s with sched := { s.sched with paceTimer := none } }) :=
        sched_moves _ s _ rfl fun ⟨low, high, count, dormant, _, running⟩ =>
          ⟨low, high, count, dormant, fun waits => absurd waits waitless, running⟩
      exact stops.runs.trans (advanceTo_runs t _)

end Sys2Proof.Machine

/-! SUPPORT. The law of the line. It looks at the line state, the pending quiet request, the transmission, the guard, the driver and the
engine's state only; each operation leaves these as they were, or sets them together. -/

namespace Sys2Proof.Machine

/-! ## Moves that leave the exchange alone -/

/-- Moves from a state to another, with the exchange in flight left alone. -/
def Passes (s t : State) : Prop := Moves (s.flight, s) (s.flight, t)

theorem Moves.passes {s t : State} (h : Moves (s.flight, s) (s.flight, t)) : Passes s t := h

theorem Move.passes {s t : State} (h : Move (s.flight, s) (s.flight, t)) : Passes s t := h.moves

theorem Passes.refl (s : State) : Passes s s := Moves.refl _

theorem Passes.trans {s t u : State} (h : Passes s t) (g : Passes t u) : Passes s u := by
  have flight : t.flight = s.flight := Moves.flight_eq h
  unfold Passes at g
  rw [flight] at g
  exact Moves.trans h g

theorem Passes.runs {s t : State} (h : Passes s t) : Runs s t := Moves.runs h

theorem Passes.apart {s t : State} (h : Passes s t) : Apart s t := Moves.apart h

theorem passes_ite {c : Prop} [Decidable c] {s t u : State} (h : Passes s t) (g : Passes s u) : Passes s (if c then t else u) := by
  split <;> assumption

theorem post_passes (e : Event) (s : State) : Passes s (post e s) := post_moves _ e s

/-! ## What the law looks at -/

/-- All that the law of the line looks at is as it was. -/
structure Alike (s t : State) : Prop where
  state : t.line.state = s.line.state
  quiet : t.line.quiet.isSome = s.line.quiet.isSome
  tx : t.framer.tx.isSome = s.framer.tx.isSome
  guard : t.framer.guardEnd = s.framer.guardEnd
  driver : t.framer.driverEnable = s.framer.driverEnable
  engine : t.engine.state = s.engine.state
  record : t.engine.record = none ↔ s.engine.record = none

theorem Alike.refl (s : State) : Alike s s := ⟨rfl, rfl, rfl, rfl, rfl, rfl, .rfl⟩

theorem Alike.trans {s t u : State} (h : Alike s t) (g : Alike t u) : Alike s u :=
  ⟨g.state.trans h.state, g.quiet.trans h.quiet, g.tx.trans h.tx, g.guard.trans h.guard, g.driver.trans h.driver,
    g.engine.trans h.engine, g.record.trans h.record⟩

theorem Apart.alike {s t : State} (h : Apart s t) : Alike s t := by
  obtain ⟨line, framer, engine⟩ := h
  constructor <;> simp only [line, framer, engine]

theorem Passes.alike {s t : State} (h : Passes s t) : Alike s t := h.apart.alike

theorem Alike.law {s t : State} (h : Alike s t) (law : s.LineLaw) : t.LineLaw := by
  unfold State.LineLaw State.RecordLaw
  rw [h.state, h.quiet, h.tx, h.guard, h.driver, h.engine, h.record]
  exact law

theorem alike_ite {c : Prop} [Decidable c] {s t u : State} (h : Alike s t) (g : Alike s u) : Alike s (if c then t else u) := by
  split <;> assumption

theorem lineLaw_ite {c : Prop} [Decidable c] {t u : State} (h : t.LineLaw) (g : u.LineLaw) : (if c then t else u).LineLaw := by
  split <;> assumption

/-- The framer neither transmits nor times a guard, and the driver is off. -/
structure Silent (s : State) : Prop where
  tx : s.framer.tx = none
  guard : s.framer.guardEnd = none
  driver : s.framer.driverEnable = false

theorem Silent.of_alike {s t : State} (h : Alike s t) (silent : Silent s) : Silent t := by
  refine ⟨?_, h.guard.trans silent.guard, h.driver.trans silent.driver⟩
  have same := h.tx
  rw [silent.tx] at same
  exact Option.isSome_eq_false_iff.1 same |> Option.isNone_iff_eq_none.1

theorem hushed_of_alike {s t : State} (h : Alike s t) (quiet : s.line.quiet = none) : t.line.quiet = none := by
  have same := h.quiet
  rw [quiet] at same
  exact Option.isSome_eq_false_iff.1 same |> Option.isNone_iff_eq_none.1

/-- The line runs or drains. -/
abbrev Live (s : State) : Prop := s.line.state = .running ∨ s.line.state = .draining

section
variable {s : State} (law : s.LineLaw)
include law

theorem lineLaw_live (away : s.engine.state ≠ .idle) : Live s := law.2.1 away

theorem lineLaw_record (away : s.engine.state ≠ .idle) : ∃ r, s.engine.record = some r :=
  Option.ne_none_iff_exists'.1 fun vacant => away (law.1.2 vacant)

theorem lineLaw_silent (sending : s.engine.state ≠ .sending) (guard : s.engine.state ≠ .guard) : Silent s := by
  obtain ⟨_, _, tx, guardEnd, driver, _⟩ := law
  refine ⟨?_, ?_, ?_⟩
  · exact Option.not_isSome_iff_eq_none.1 fun some => sending (tx some)
  · exact Option.not_isSome_iff_eq_none.1 fun some => guard (guardEnd some)
  · exact Bool.eq_false_iff.2 fun on => (driver on).elim sending guard

theorem lineLaw_hushed (wait : s.engine.state ≠ .settleWait) (settle : s.engine.state ≠ .settle) : s.line.quiet = none :=
  Option.not_isSome_iff_eq_none.1 fun some => (law.2.2.2.2.2.1 some).elim wait settle

end

/-- With the engine in IDLE, the framer silent and no quiet request the law asks no more. -/
theorem lineLaw_idle {s : State} (engine : s.engine = {}) (silent : Silent s) (quiet : s.line.quiet = none) : s.LineLaw := by
  unfold State.LineLaw State.RecordLaw
  simp [engine, silent.tx, silent.guard, silent.driver, quiet]

section
variable {s : State} {r : InFlight} (record : s.engine.record = some r) (live : Live s) (silent : Silent s)
include record live silent

/-- Between a transmission and the next request: AWAIT, RECEIVING and DRAIN. -/
theorem lineLaw_listening (quiet : s.line.quiet = none)
    (state : s.engine.state = .await ∨ s.engine.state = .receiving ∨ s.engine.state = .drain) : s.LineLaw := by
  unfold State.LineLaw State.RecordLaw
  rcases state with state | state | state <;>
    simpa [state, record, silent.tx, silent.guard, silent.driver, quiet] using live

theorem lineLaw_waiting (quiet : s.line.quiet.isSome = true) (state : s.engine.state = .settleWait ∨ s.engine.state = .settle) :
    s.LineLaw := by
  unfold State.LineLaw State.RecordLaw
  rcases state with state | state <;> simpa [state, record, silent.tx, silent.guard, silent.driver, quiet] using live

end

/-! ## The ends -/

theorem endNotice_lineLaw {s : State} (engine : s.engine = {}) (silent : Silent s) (quiet : s.line.quiet = none) : (endNotice s).LineLaw := by
  rcases endNotice_cases s with ⟨_, h⟩ | ⟨_, h⟩ | ⟨_, h⟩ <;> rw [h]
  · exact lineLaw_idle engine ⟨silent.tx, silent.guard, silent.driver⟩ quiet
  · exact (post_passes _ _).alike.law (lineLaw_idle engine ⟨silent.tx, silent.guard, silent.driver⟩ quiet)
  · exact lineLaw_idle engine silent quiet

theorem endExchange_lineLaw {s : State} (silent : Silent s) (quiet : s.line.quiet = none) : (endExchange s).LineLaw :=
  endNotice_lineLaw rfl ⟨silent.tx, silent.guard, silent.driver⟩ quiet

/-- An abandonment leaves nothing of the exchange: the engine in IDLE, the framer silent, and no quiet request. -/
theorem abandon_ends (c : Cause) (high : Bool) {s : State} {r : InFlight} (record : s.engine.record = some r) :
    (abandon c high s).engine = {} ∧ Silent (abandon c high s) ∧ (abandon c high s).line.quiet = none := by
  have outcome := (abandonOutcome_moves r.exch (post (abortedEvent r.exch c (framerStop high s)) (framerStop high s))).apart
  have framer := outcome.2.1.trans (post_framer _ _)
  unfold abandon
  rw [record]
  refine ⟨rfl, ⟨?_, ?_, ?_⟩, rfl⟩
  · exact (congrArg Framer.tx framer :)
  · exact (congrArg Framer.guardEnd framer :)
  · exact (congrArg Framer.driverEnable framer :)

theorem withdraw_lineLaw (c : Cause) {s : State} {r : InFlight} (record : s.engine.record = some r) : (withdraw c s).LineLaw := by
  obtain ⟨engine, silent, quiet⟩ := abandon_ends c true record
  exact endNotice_lineLaw engine silent quiet

theorem withdrawalNotice_lineLaw (c : Cause) {s : State} (law : s.LineLaw) : (withdrawalNotice c s).LineLaw := by
  unfold withdrawalNotice
  split
  · next state =>
    obtain ⟨r, record⟩ := lineLaw_record law (ne_of_eq_of_ne state nofun)
    exact withdraw_lineLaw c record
  · next state =>
    obtain ⟨r, record⟩ := lineLaw_record law (ne_of_eq_of_ne state nofun)
    exact withdraw_lineLaw c record
  · exact law

/-- A line that stops or faults: the exchange, if there is one, is abandoned, and no quiet request is left. -/
theorem abandoned_lineLaw (c : Cause) (high : Bool) (l : LineState) {s : State} (law : s.LineLaw) :
    { abandon c high s with line := { (abandon c high s).line with state := l, quiet := none } }.LineLaw := by
  cases record : s.engine.record with
  | some r =>
    obtain ⟨engine, silent, _⟩ := abandon_ends c high record
    exact lineLaw_idle engine ⟨silent.tx, silent.guard, silent.driver⟩ rfl
  | none =>
    have idle : s.engine.state = .idle := law.1.2 record
    have silent := lineLaw_silent law (ne_of_eq_of_ne idle nofun) (ne_of_eq_of_ne idle nofun)
    have same : abandon c high s = s := by
      unfold abandon
      rw [record]
    rw [same]
    unfold State.LineLaw State.RecordLaw
    simp [record, idle, silent.tx, silent.guard, silent.driver]

theorem lineFault_lineLaw (d : Word) (high : Bool) {s : State} (law : s.LineLaw) : (lineFault d high s).LineLaw :=
  lineLaw_ite ((post_passes _ _).alike.law (abandoned_lineLaw .fault high .faulted law)) law

/-! ## Failed attempts and the decision -/

theorem failAttempt_alike (why : Reason) (s : State) : Alike s (failAttempt why s) := by
  unfold failAttempt
  dsimp only
  split
  · exact .refl s
  · split <;> (constructor <;> simp [modRecord, countFailedAttempt])

theorem enterSettle_lineLaw {s : State} {r : InFlight} (record : s.engine.record = some r) (live : Live s) (silent : Silent s) :
    (enterSettle s).LineLaw :=
  lineLaw_waiting (r := r) record live ⟨silent.tx, silent.guard, silent.driver⟩ rfl (.inr rfl)

section
variable {s : State} {r : InFlight} (record : s.engine.record = some r) (live : Live s) (silent : Silent s)
include record live silent

theorem retry_lineLaw : (retry s).LineLaw := by
  refine enterSettle_lineLaw (r := { r with attempt := r.attempt + 1 }) ?_ live ⟨silent.tx, silent.guard, silent.driver⟩
  simp only [modRecord, record, Option.map_some]

variable (quiet : s.line.quiet = none)
include quiet

omit record live in
/-- The end of an exchange whose parts have been dealt with, the framer being silent. -/
theorem ended_lineLaw {f g : Flight} {t : State} (h : Moves (f, s) (g, t)) : (endExchange t).LineLaw :=
  endExchange_lineLaw (.of_alike h.apart.alike silent) (hushed_of_alike h.apart.alike quiet)

omit record live in
theorem failedEnd_lineLaw : (failedEnd r.exch s).LineLaw ∨ r.exch.targetEntry = none := by
  unfold failedEnd
  split
  · exact .inl (ended_lineLaw silent quiet
      ((releaseReservation_moves { target := some _ } s).trans (failedOutcome_moves rfl (.inl rfl))))
  · refine .inl ?_
    split
    · next i b _ retiring =>
      exact ended_lineLaw silent quiet (failedOutcome_moves (f := (Exchange.deliver i b).flight) rfl
        (.inr ⟨retiring, fun c carried => ⟨_, (Option.some.inj carried).symm⟩⟩))
    · next i b _ _ =>
      exact ended_lineLaw silent quiet ((requeue_moves (f := (Exchange.deliver i b).flight) rfl).trans
        (failedOutcome_moves rfl (.inl rfl)))
  · next exch => exact .inr (by rw [exch]; rfl)
  · next exch => exact .inr (by rw [exch]; rfl)

theorem decideRetry_lineLaw (i : EntryIx) (target : r.exch.targetEntry ≠ none) : (decideRetry i r s).LineLaw := by
  unfold decideRetry
  split
  · split
    · exact withdraw_lineLaw .retire record
    · exact retry_lineLaw record live silent
  · exact (failedEnd_lineLaw silent quiet).resolve_right target

/-- The decision after a failed attempt, the framer being silent and no request pending. -/
theorem decision_lineLaw : (decision s).LineLaw := by
  have stopped : (stopTimers s).engine.record = some r := record
  have still : Silent (stopTimers s) := ⟨silent.tx, silent.guard, silent.driver⟩
  unfold decision decide60
  rw [stopped]
  dsimp only
  split
  · exact ended_lineLaw still quiet (sweepFailure_moves (f := {}) _ _)
  · next exch =>
    split
    · exact withdraw_lineLaw .cancel stopped
    · exact decideRetry_lineLaw stopped live still quiet _ (by rw [exch]; nofun)
  · next exch => exact decideRetry_lineLaw stopped live still quiet _ (by rw [exch]; nofun)
  · exact enterSettle_lineLaw stopped live still

end

/-! ## The reply -/

theorem enterDrain_lineLaw {s : State} {r : InFlight} (record : s.engine.record = some r) (live : Live s) (silent : Silent s)
    (quiet : s.line.quiet = none) : (enterDrain s).LineLaw :=
  lineLaw_listening (r := r) record live ⟨silent.tx, silent.guard, silent.driver⟩ quiet (.inr (.inr rfl))

theorem goodEnd_lineLaw {s : State} {r : InFlight} {k : ReplyKind} (silent : Silent s) (quiet : s.line.quiet = none)
    (answering : answers r.exch k = true) : (goodEnd r k s).LineLaw := by
  unfold goodEnd
  dsimp only
  split <;> rename_i exch <;> rw [exch] at answering
  · next i b =>
    have settles (t : State) : Moves ((Exchange.poll i b).flight, t) ({}, goodOutcome i (releaseReservation t)) :=
      (releaseReservation_moves _ t).trans (goodOutcome_moves rfl (.inl rfl))
    have takes (packed : Bool) (tag : BitVec 4) : Moves ((Exchange.poll i b).flight, s) ({}, goodOutcome i (takeReport i packed tag s)) :=
      (takeReport_moves _ _ rfl).trans (goodOutcome_moves rfl (.inl rfl))
    split
    · exact ended_lineLaw silent quiet (takes _ _)
    · exact ended_lineLaw silent quiet (takes _ _)
    · exact ended_lineLaw silent quiet (settles s)
  · next i b =>
    have kind : k = .accept ∨ k = .busy ∨ k = .refuse := by cases k <;> simp [answers] at answering ⊢
    exact ended_lineLaw silent quiet ((deliverEnd_moves (f := (Exchange.deliver i b).flight) rfl rfl kind).trans
      (goodOutcome_moves rfl (.inl rfl)))
  · next a => exact ended_lineLaw silent quiet (probeIdent_moves (f := (Exchange.probe a).flight) _ rfl rfl rfl)
  · next b => cases k <;> cases answering

theorem storePayload_alike (x : Exchange) (d : Byte) (s : State) : Alike s (storePayload x d s) := by
  unfold storePayload
  split <;> (constructor <;> simp [modRecord])

section
variable {s : State} {r : InFlight} (record : s.engine.record = some r) (live : Live s) (silent : Silent s)
  (quiet : s.line.quiet = none)
include record live silent quiet

theorem failDrain_lineLaw (why : Reason) : (enterDrain (failAttempt why s)).LineLaw := by
  have alike := failAttempt_alike why s
  exact enterDrain_lineLaw (failAttempt_record record why) (by unfold Live; rw [alike.state]; exact live) (.of_alike alike silent)
    (hushed_of_alike alike quiet)

theorem failDiscard_lineLaw (why : Reason) : (enterDrain (discardMode (failAttempt why s))).LineLaw := by
  have alike := failAttempt_alike why s
  have still := silent.of_alike alike
  exact enterDrain_lineLaw (s := discardMode (failAttempt why s)) (failAttempt_record record why)
    (by unfold Live; exact alike.state ▸ live) ⟨still.tx, still.guard, still.driver⟩ (hushed_of_alike alike quiet :)

theorem failDecide_lineLaw (why : Reason) : (decision (failAttempt why s)).LineLaw := by
  have alike := failAttempt_alike why s
  exact decision_lineLaw (failAttempt_record record why) (by unfold Live; rw [alike.state]; exact live) (.of_alike alike silent)
    (hushed_of_alike alike quiet)

end

theorem handleReport_lineLaw (p : Report) {s : State} (law : s.LineLaw) : (handleReport p s).LineLaw := by
  have facts (state : s.engine.state = .await ∨ s.engine.state = .receiving ∨ s.engine.state = .drain) :
      Live s ∧ Silent s ∧ s.line.quiet = none := by
    have others : s.engine.state ≠ .idle ∧ s.engine.state ≠ .sending ∧ s.engine.state ≠ .guard ∧ s.engine.state ≠ .settleWait ∧
        s.engine.state ≠ .settle := by rcases state with state | state | state <;> simp [state]
    obtain ⟨idle, sending, guard, wait, settle⟩ := others
    exact ⟨lineLaw_live law idle, lineLaw_silent law sending guard, lineLaw_hushed law wait settle⟩
  unfold handleReport
  split
  · exact law
  · next r record =>
    split
    · next state =>
      obtain ⟨live, silent, quiet⟩ := facts (.inl state)
      refine lineLaw_ite ?_ (failDiscard_lineLaw record live silent quiet _)
      exact lineLaw_listening (r := r) record live ⟨silent.tx, silent.guard, silent.driver⟩ quiet (.inr (.inl rfl))
    · next state =>
      obtain ⟨live, silent, quiet⟩ := facts (.inr (.inl state))
      split
      · exact failDiscard_lineLaw record live silent quiet _
      · exact law
    · next state =>
      obtain ⟨live, silent, quiet⟩ := facts (.inr (.inl state))
      exact failDrain_lineLaw record live silent quiet _
    · exact (storePayload_alike _ _ s).law law
    · next state =>
      obtain ⟨live, silent, quiet⟩ := facts (.inr (.inl state))
      exact failDrain_lineLaw record live silent quiet _
    · next state =>
      obtain ⟨live, silent, quiet⟩ := facts (.inr (.inl state))
      exact failDecide_lineLaw record live silent quiet _
    · next state =>
      obtain ⟨live, silent, quiet⟩ := facts (.inr (.inl state))
      have fails := failDecide_lineLaw record live silent quiet
      split
      · exact fails _
      · split
        · exact fails _
        · split
          · next answering => exact goodEnd_lineLaw silent quiet answering
          · exact fails _
    · next state =>
      obtain ⟨live, silent, quiet⟩ := facts (.inr (.inr state))
      exact decision_lineLaw record live silent quiet
    · exact law

theorem engineReport_lineLaw (p : Report) {s : State} (law : s.LineLaw) : (engineReport p s).LineLaw := by
  unfold engineReport
  split
  · exact law
  · exact handleReport_lineLaw p law

end Sys2Proof.Machine

/-! SUPPORT. The law of the line over the line-side steps, the host's accesses, and the look. -/

namespace Sys2Proof.Machine

/-! ## Characters -/

theorem modFramer_alike {g : Framer → Framer} (s : State) (tx : ∀ f, (g f).tx = f.tx) (guard : ∀ f, (g f).guardEnd = f.guardEnd)
    (driver : ∀ f, (g f).driverEnable = f.driverEnable) : Alike s (modFramer g s) :=
  ⟨rfl, rfl, congrArg Option.isSome (tx _), guard _, driver _, rfl, .rfl⟩

/-- A byte taken leaves the transmission, the guard and the driver as they are. -/
theorem collected_alike (data : Byte) (f : Framer) : (collected data f).tx = f.tx ∧ (collected data f).guardEnd = f.guardEnd ∧
    (collected data f).driverEnable = f.driverEnable := by
  cases f
  exact ⟨rfl, rfl, rfl⟩

/-- A change of the framer after a byte is taken that leaves the transmission, the guard and the driver alone. -/
theorem modFramer_collected_alike (data : Byte) (s : State) {g : Framer → Framer} (tx : ∀ f, (g f).tx = f.tx)
    (guard : ∀ f, (g f).guardEnd = f.guardEnd) (driver : ∀ f, (g f).driverEnable = f.driverEnable) :
    Alike s (modFramer (fun f => g (collected data f)) s) :=
  modFramer_alike s (fun f => (tx _).trans (collected_alike data f).1) (fun f => (guard _).trans (collected_alike data f).2.1)
    fun f => (driver _).trans (collected_alike data f).2.2

theorem activityNotice_alike (s : State) : Alike s (activityNotice s) := by
  unfold activityNotice
  split
  · exact .refl s
  · next quiet => exact ⟨rfl, by simp [quiet], rfl, rfl, rfl, rfl, .rfl⟩

theorem advanceTo_alike (t : Nat) (s : State) : Alike s (advanceTo t s) := ⟨rfl, rfl, rfl, rfl, rfl, rfl, .rfl⟩

theorem countStray_alike (s : State) : Alike s (countStray s) := ⟨rfl, rfl, rfl, rfl, rfl, rfl, .rfl⟩

theorem countNoise_alike (s : State) : Alike s (countNoise s) := ⟨rfl, rfl, rfl, rfl, rfl, rfl, .rfl⟩

theorem watchCharacter_alike (s : State) : Alike s (watchCharacter s) := (countStray_alike s).trans (activityNotice_alike _)

/-- The framer's receiving side changed. -/
theorem receives_alike (s : State) (fr : Framer) (tx : fr.tx = s.framer.tx) (guard : fr.guardEnd = s.framer.guardEnd)
    (driver : fr.driverEnable = s.framer.driverEnable) : Alike s { s with framer := fr } :=
  ⟨rfl, congrArg Option.isSome rfl, congrArg Option.isSome tx, guard, driver, rfl, .rfl⟩

theorem startEdge_alike (wait : Nat) (s : State) : Alike s (startEdge wait s) :=
  alike_ite ⟨rfl, rfl, rfl, rfl, rfl, rfl, .rfl⟩ (.refl s)

theorem startEdgeCheck_alike (high : Bool) (s : State) : Alike s (startEdgeCheck high s) := by
  unfold startEdgeCheck
  split
  · refine alike_ite ⟨rfl, rfl, rfl, rfl, rfl, rfl, .rfl⟩ (alike_ite (.trans ?_ (activityNotice_alike _)) ?_) <;>
      exact ⟨rfl, rfl, rfl, rfl, rfl, rfl, .rfl⟩
  · exact .refl s

theorem receiverRearm_alike (wait : Nat) (s : State) : Alike s (receiverRearm wait s) := by
  unfold receiverRearm
  split
  · exact ⟨rfl, rfl, rfl, rfl, rfl, rfl, .rfl⟩
  · exact .refl s

section
variable {s : State} (law : s.LineLaw)
include law

theorem reported_lineLaw {t : State} (p : Report) (alike : Alike s t) : (engineReport p t).LineLaw :=
  engineReport_lineLaw p (alike.law law)

theorem huntCharacter_lineLaw (edge : Nat) (data : Byte) (stop : Bool) : (huntCharacter edge data stop s).LineLaw :=
  lineLaw_ite (reported_lineLaw law _ ⟨rfl, rfl, rfl, rfl, rfl, rfl, .rfl⟩) ((countNoise_alike s).law law)

theorem collectByte_lineLaw (data : Byte) : (collectByte data s).LineLaw := by
  have address : Alike s (modFramer (fun f => { collected data f with hdrAddress := data }) s) :=
    modFramer_collected_alike data s (g := fun f => { f with hdrAddress := data }) (fun _ => rfl) (fun _ => rfl) fun _ => rfl
  have kind : Alike s (modFramer (fun f => { collected data f with hdrKindTag := data }) s) :=
    modFramer_collected_alike data s (g := fun f => { f with hdrKindTag := data }) (fun _ => rfl) (fun _ => rfl) fun _ => rfl
  have discards : Alike s (modFramer (fun f => { collected data f with hdrLength := data, mode := .discard }) s) :=
    modFramer_collected_alike data s (g := fun f => { f with hdrLength := data, mode := .discard }) (fun _ => rfl) (fun _ => rfl)
      fun _ => rfl
  have length : Alike s (modFramer (fun f => { collected data f with hdrLength := data }) s) :=
    modFramer_collected_alike data s (g := fun f => { f with hdrLength := data }) (fun _ => rfl) (fun _ => rfl) fun _ => rfl
  have payload : Alike s (modFramer (collected data) s) :=
    modFramer_collected_alike data s (g := id) (fun _ => rfl) (fun _ => rfl) fun _ => rfl
  have crcHigh : Alike s (modFramer (fun f => { f with crcHigh := data, taken := f.taken + 1 }) s) :=
    modFramer_alike s (fun _ => rfl) (fun _ => rfl) fun _ => rfl
  have whole : Alike s (modFramer (fun f => { f with taken := f.taken + 1, mode := .watch, gap := none }) s) :=
    modFramer_alike s (fun _ => rfl) (fun _ => rfl) fun _ => rfl
  unfold collectByte
  exact lineLaw_ite (address.law law) (lineLaw_ite (kind.law law) (lineLaw_ite
    (lineLaw_ite (reported_lineLaw law _ discards) (reported_lineLaw law _ length))
    (lineLaw_ite (reported_lineLaw law _ payload) (lineLaw_ite (crcHigh.law law) (reported_lineLaw law _ whole)))))

theorem collectCharacter_lineLaw (data : Byte) (stop : Bool) : (collectCharacter data stop s).LineLaw := by
  have timed : Alike s (modFramer (fun f => { f with gap := gapFrom stop s }) s) := ⟨rfl, rfl, rfl, rfl, rfl, rfl, .rfl⟩
  exact lineLaw_ite (collectByte_lineLaw (timed.law law) data)
    (reported_lineLaw law _ (timed.trans ⟨rfl, rfl, rfl, rfl, rfl, rfl, .rfl⟩))

theorem completeIn_lineLaw {m : RxMode} {stop : Bool} {f : Nat → State → State}
    (handled : ∀ (edge : Nat) (t : State), t.LineLaw → (f edge t).LineLaw) : (completeIn m stop f s).LineLaw := by
  unfold completeIn
  split
  · exact lineLaw_ite (handled _ _ (Alike.law ⟨rfl, rfl, rfl, rfl, rfl, rfl, .rfl⟩ law)) law
  · exact law

theorem breakCharacter_lineLaw : (breakCharacter s).LineLaw := by
  unfold breakCharacter
  split
  · next since _ =>
    have formed : (modFramer (fun f => { f with rx := .low (advanceTo (since + charNow s) s).now })
        (advanceTo (since + charNow s) s)).LineLaw := Alike.law ⟨rfl, rfl, rfl, rfl, rfl, rfl, .rfl⟩ law
    dsimp only
    split
    · exact (watchCharacter_alike _).law formed
    · exact law
    · exact (countNoise_alike _).law formed
    · exact collectCharacter_lineLaw formed _ _
    · exact Alike.law ⟨rfl, rfl, rfl, rfl, rfl, rfl, .rfl⟩ formed
  · exact law

end

/-! ## The transmission -/

theorem raiseContention_alike (s : State) : Alike s (raiseContention s) := alike_ite ⟨rfl, rfl, rfl, rfl, rfl, rfl, .rfl⟩ (.refl s)

theorem cleanVerdict_alike (s : State) : Alike s (cleanVerdict s) := alike_ite ⟨rfl, rfl, rfl, rfl, rfl, rfl, .rfl⟩ (.refl s)

theorem contention_lineLaw {x : Transmission} (stop first : Bool) {s : State} (law : s.LineLaw) (tx : s.framer.tx = some x) :
    (contention x stop first s).LineLaw := by
  have marked : Alike s (modFramer (fun f => { f with tx := some { x with contended := true } }) s) :=
    ⟨rfl, rfl, by rw [tx]; rfl, rfl, rfl, rfl, .rfl⟩
  have counted := (marked.trans (raiseContention_alike _)).law law
  refine lineLaw_ite ((failAttempt_alike _ _).law counted) (lineLaw_ite (lineFault_lineLaw _ _ ?_) (lineFault_lineLaw _ _ counted))
  exact ((marked.trans (failAttempt_alike _ _)).trans (raiseContention_alike _)).law law

section
variable {s : State} (law : s.LineLaw)
include law

theorem echoComparison_lineLaw (start : Bool) (data : Byte) (stop first : Bool) : (echoComparison start data stop first s).LineLaw := by
  unfold echoComparison
  split
  · exact law
  · next x tx =>
    split
    · exact law
    · have later := (advanceTo_alike (charEnd x x.compared s - halfNow s) s).law law
      refine lineLaw_ite (lineLaw_ite (Alike.law ?_ later) (contention_lineLaw _ _ later tx)) law
      refine ⟨rfl, rfl, ?_, rfl, rfl, rfl, .rfl⟩
      change _ = s.framer.tx.isSome
      rw [tx]
      rfl

/-- The facts of a transmission that is under way: the engine sends, with a record, on a line that runs or drains, no guard is timed and
no request is pending. -/
theorem sending_facts {x : Transmission} (tx : s.framer.tx = some x) :
    s.engine.state = .sending ∧ (∃ r, s.engine.record = some r) ∧ Live s ∧ s.framer.guardEnd = none ∧ s.line.quiet = none := by
  have sending : s.engine.state = .sending := law.2.2.1 (by rw [tx]; rfl)
  have away : s.engine.state ≠ .idle := ne_of_eq_of_ne sending nofun
  refine ⟨sending, lineLaw_record law away, lineLaw_live law away, Option.not_isSome_iff_eq_none.1 fun timed => ?_,
    lineLaw_hushed law (ne_of_eq_of_ne sending nofun) (ne_of_eq_of_ne sending nofun)⟩
  cases sending.symm.trans (law.2.2.2.1 timed)

theorem contentionStop_lineLaw (high : Bool) : (contentionStop high s).LineLaw := by
  unfold contentionStop
  split
  · exact law
  · next x tx =>
    obtain ⟨_, ⟨r, record⟩, live, guard, quiet⟩ := sending_facts law tx
    refine lineLaw_ite ?_ law
    exact decision_lineLaw (r := r) record live ⟨rfl, guard, rfl⟩ quiet

theorem frameSent_lineLaw (high : Bool) : (frameSent high s).LineLaw := by
  unfold frameSent
  split
  · next x r tx record =>
    obtain ⟨_, _, live, _, quiet⟩ := sending_facts law tx
    refine lineLaw_ite ?_ law
    have judged : Alike s (if x.echoCheck = true then cleanVerdict (advanceTo (charEnd x (x.chars.length - 1) s) s)
        else advanceTo (charEnd x (x.chars.length - 1) s) s) :=
      (advanceTo_alike _ s).trans (alike_ite (cleanVerdict_alike _) (.refl _))
    have running : Live (if x.echoCheck = true then cleanVerdict (advanceTo (charEnd x (x.chars.length - 1) s) s)
        else advanceTo (charEnd x (x.chars.length - 1) s) s) := by
      unfold Live
      rw [judged.state]
      exact live
    have recorded := judged.record.not.2 (Option.ne_none_iff_exists'.2 ⟨r, record⟩)
    have hushed := hushed_of_alike judged quiet
    refine ⟨⟨nofun, fun vacant => absurd vacant recorded⟩, fun _ => running, nofun, fun _ => rfl, fun _ => .inr rfl, fun some => ?_, ?_⟩
    · exact absurd some (by simp [modFramer, withEngineState, hushed])
    · rintro (state | state) <;> cases state
  · exact law

/-! ## Release and the limits -/

theorem handleReports_lineLaw (l : List Report) : (l.foldl (fun t p => handleReport p t) s).LineLaw := by
  induction l generalizing s with
  | nil => exact law
  | cons p rest ih => exact ih (handleReport_lineLaw p law)

omit law in
theorem released_lineLaw {r : InFlight} (record : s.engine.record = some r) (live : Live s) (silent : Silent s)
    (quiet : s.line.quiet = none) : (released r s).LineLaw := by
  unfold released
  split
  · next b exch =>
    refine lineLaw_ite (retry_lineLaw record live silent) ?_
    exact ended_lineLaw silent quiet (((departBroadcast_moves (f := { message := some (.toAll b) }) .carried).trans (post_moves _ _ _)))
  · refine handleReports_lineLaw ?_ _
    exact lineLaw_listening (r := r) record live ⟨silent.tx, silent.guard, silent.driver⟩ quiet (.inl rfl)

theorem lineRelease_lineLaw : (lineRelease s).LineLaw := by
  unfold lineRelease
  split
  · next t r timed record =>
    have guard : s.engine.state = .guard := law.2.2.2.1 (by rw [timed]; rfl)
    have tx : s.framer.tx = none := Option.not_isSome_iff_eq_none.1 fun some => by cases guard.symm.trans (law.2.2.1 some)
    have quiet := lineLaw_hushed law (ne_of_eq_of_ne guard nofun) (ne_of_eq_of_ne guard nofun)
    have live : Live s := lineLaw_live law (ne_of_eq_of_ne guard nofun)
    exact released_lineLaw (r := r) record live ⟨tx, rfl, rfl⟩ quiet
  · exact law

theorem gapExpiry_lineLaw : (gapExpiry s).LineLaw := by
  unfold gapExpiry
  split
  · exact law
  · dsimp only
    split
    · exact reported_lineLaw law _ ⟨rfl, rfl, rfl, rfl, rfl, rfl, .rfl⟩
    · exact reported_lineLaw law _ ⟨rfl, rfl, rfl, rfl, rfl, rfl, .rfl⟩
    · exact law

theorem takeLimit_lineLaw : (takeLimit s).LineLaw := by
  unfold takeLimit
  split
  · next t state _ =>
    have away : s.engine.state ≠ .idle := ne_of_eq_of_ne state nofun
    obtain ⟨r, record⟩ := lineLaw_record law away
    have silent := lineLaw_silent law (ne_of_eq_of_ne state nofun) (ne_of_eq_of_ne state nofun)
    have quiet := lineLaw_hushed law (ne_of_eq_of_ne state nofun) (ne_of_eq_of_ne state nofun)
    have failed := (advanceTo_alike t s).trans (failAttempt_alike .noReply (advanceTo t s))
    have still := silent.of_alike failed
    have live : Live (failAttempt .noReply (advanceTo t s)) := by
      unfold Live
      rw [failed.state]
      exact lineLaw_live law away
    exact decision_lineLaw (s := watchMode (failAttempt .noReply (advanceTo t s)))
      (failAttempt_record (s := advanceTo t s) record _) live ⟨still.tx, still.guard, still.driver⟩ (hushed_of_alike failed quiet :)
  · exact law

theorem drainLimit_lineLaw : (drainLimit s).LineLaw := by
  unfold drainLimit
  split
  · next t state _ =>
    have away : s.engine.state ≠ .idle := ne_of_eq_of_ne state nofun
    obtain ⟨r, record⟩ := lineLaw_record law away
    have silent := lineLaw_silent law (ne_of_eq_of_ne state nofun) (ne_of_eq_of_ne state nofun)
    have quiet := lineLaw_hushed law (ne_of_eq_of_ne state nofun) (ne_of_eq_of_ne state nofun)
    exact decision_lineLaw (r := r) record (lineLaw_live law away) ⟨silent.tx, silent.guard, silent.driver⟩ quiet
  · exact law

/-! ## The deadlines -/

omit law in
theorem buildFrame_alike (x : Exchange) : Alike s (buildFrame x s) := by
  cases x <;> (constructor <;> simp [buildFrame, markTransmitted, modRecord])

omit law in
theorem transmit_lineLaw {r : InFlight} (record : s.engine.record = some r) (live : Live s) (guard : s.framer.guardEnd = none)
    (quiet : s.line.quiet = none) : (transmit s).LineLaw := by
  unfold transmit
  rw [record]
  dsimp only
  have built : Alike s (match s.engine.state with
      | .settleWait => buildFrame r.exch s
      | _ => s) := by
    split
    · exact buildFrame_alike _
    · exact .refl s
  split
  · next vacant =>
    cases record.symm.trans (built.record.1 vacant)
  · next r1 record1 =>
    have hushed := hushed_of_alike built quiet
    have untimed := built.guard.trans guard
    have running : Live (match s.engine.state with
        | .settleWait => buildFrame r.exch s
        | _ => s) := by
      unfold Live
      rw [built.state]
      exact live
    refine ⟨⟨nofun, fun vacant => nomatch record1.symm.trans vacant⟩, fun _ => running, fun _ => rfl, fun timed => ?_, fun _ => .inl rfl,
      fun some => ?_, ?_⟩
    · cases (congrArg Option.isSome untimed).symm.trans timed
    · cases (congrArg Option.isSome hushed).symm.trans some
    · rintro (state | state) <;> cases state

theorem quietDeadline_lineLaw : (quietDeadline s).LineLaw := by
  unfold quietDeadline
  split
  · exact law
  · next q quiet =>
    have waits : s.engine.state = .settleWait ∨ s.engine.state = .settle := law.2.2.2.2.2.1 (by rw [quiet]; rfl)
    have away : s.engine.state ≠ .idle := by rcases waits with state | state <;> exact ne_of_eq_of_ne state nofun
    have silent : Silent s := by
      rcases waits with state | state <;> exact lineLaw_silent law (ne_of_eq_of_ne state nofun) (ne_of_eq_of_ne state nofun)
    have live : Live s := lineLaw_live law away
    obtain ⟨r, record⟩ := lineLaw_record law away
    dsimp only
    split
    · exact transmit_lineLaw (r := r) record live silent.guard rfl
    · exact transmit_lineLaw (r := r) record live silent.guard rfl
    · next wait settle => exact absurd waits (not_or.2 ⟨wait, settle⟩)

theorem babbleDeadline_lineLaw : (babbleDeadline s).LineLaw := by
  unfold babbleDeadline
  split
  · exact law
  · exact lineFault_lineLaw _ _ ((advanceTo_alike _ s).law law)

theorem paceExpiry_lineLaw : (paceExpiry s).LineLaw := by
  unfold paceExpiry
  split
  · exact law
  · exact lineLaw_ite (Alike.law ⟨rfl, rfl, rfl, rfl, rfl, rfl, .rfl⟩ law) (Alike.law ⟨rfl, rfl, rfl, rfl, rfl, rfl, .rfl⟩ law)

end

/-! ## Both together -/

/-- Changes with the exchange in flight before and after, that do not end the law of the line. -/
structure Keeps (s t : State) : Prop where
  runs : Runs s t
  line : s.LineLaw → t.LineLaw

theorem Keeps.refl (s : State) : Keeps s s := ⟨.refl s, id⟩

theorem Keeps.trans {s t u : State} (h : Keeps s t) (g : Keeps t u) : Keeps s u := ⟨h.runs.trans g.runs, fun law => g.line (h.line law)⟩

theorem Passes.keeps {s t : State} (h : Passes s t) : Keeps s t := ⟨h.runs, h.alike.law⟩

theorem keeps_ite {c : Prop} [Decidable c] {s t u : State} (h : Keeps s t) (g : Keeps s u) : Keeps s (if c then t else u) := by
  split <;> assumption

theorem modRecord_keeps {g : InFlight → InFlight} (exch : ∀ r, (g r).exch = r.exch) (s : State) : Keeps s (modRecord g s) :=
  ⟨modRecord_runs exch s, Alike.law ⟨rfl, rfl, rfl, rfl, rfl, rfl, by simp [modRecord]⟩⟩

theorem withdrawalNotice_keeps (c : Cause) (s : State) : Keeps s (withdrawalNotice c s) :=
  ⟨withdrawalNotice_runs c s, withdrawalNotice_lineLaw c⟩

end Sys2Proof.Machine

/-! SUPPORT. The host's commands as changes. -/

namespace Sys2Proof.Machine

theorem modPort_passes (g : Port → Port) (s : State) (kept : ∀ p, (g p).latch = p.latch ∧ (g p).wide = p.wide) : Passes s (modPort g s) :=
  (modPort_moves _ g s kept).passes

theorem hostError_passes (h : HostError) (s : State) : Passes s (hostError h s) := (hostError_moves _ h s).passes

theorem wake_passes (s : State) : Passes s (wake s) := (wake_moves _ s).passes

/-- The answer of a command stands in the host port, where no law looks. -/
theorem commandAccess_keeps {f : State → Answer} (code : Byte) {s : State} (h : Keeps s (f s).st) : Keeps s (command code f s) :=
  h.trans (modPort_passes _ _ fun _ => ⟨by rfl, by rfl⟩).keeps

theorem writeAccess_keeps {f : State → State} {s : State} (h : Keeps s (f s)) : Keeps s (writeAccess f s) :=
  h.trans (modPort_passes _ _ fun _ => ⟨by rfl, by rfl⟩).keeps

theorem readAccess_keeps {f : State → Word × State} {s : State} (h : Keeps s (f s).2) : Keeps s (readAccess f s) :=
  h.trans (modPort_passes _ _ fun _ => ⟨by rfl, by rfl⟩).keeps

/-! ## The table's commands (chapter 2, R91) -/

theorem cmdAdd_passes (s : State) : Passes s (cmdAdd s).st := by
  unfold cmdAdd
  dsimp only
  split
  · exact .refl s
  · next range =>
    split
    · exact .refl s
    · split
      · exact .refl s
      · next held =>
        split
        · exact .refl s
        · next i found =>
          have added : Occupying s.flight.probed s i
              (addedEntry s.port.carg0.toNat (s.port.carg1.getLsbD 0) (s.port.carg1.getLsbD 1)) :=
            ⟨lowestEmpty_state found, ⟨nofun, nofun, nofun⟩, ⟨rfl, rfl, rfl, rfl⟩, ⟨rfl, rfl⟩,
              Option.not_isSome_iff_eq_none.1 held, .inl (by simp only [addedEntry]; omega)⟩
          exact (Move.occupy _ s i _ added).passes.trans (wake_passes _)

theorem departed_modEntry_retiring (i : EntryIx) (bs : List BufIx) (s : State) :
    departed i bs (modEntry i (fun e => { e with state := .retiring }) s) =
      modEntry i (fun e => { e with state := .retiring }) (departed i bs s) := by
  simp [departed, modEntry, withEntry, Entry.advanced]

/-- REMOVE with an exchange to the entry in flight, in one piece before its withdrawal notice: the messages that depart, RETIRING and off
the urgent list, and then the records (R39, R110). -/
theorem removeLater_eq (i : EntryIx) (s : State) : removeLater i s = withdrawalNotice .retire
    ((dropUrgent i (modEntry i (fun e => { e with state := .retiring }) (departed i (queuedMessages i s) s))).posting
      (flushRecords i .cancelled (fun _ => 2) (queuedMessages i s) s)) := by
  have records : flushRecords i .cancelled (fun _ => 2) (queuedMessages i s) (modEntry i (fun e => { e with state := .retiring }) s) =
      flushRecords i .cancelled (fun _ => 2) (queuedMessages i s) s := by
    simp [flushRecords, modEntry, withEntry]
  have same : queuedMessages i (modEntry i (fun e => { e with state := .retiring }) s) = queuedMessages i s := rfl
  unfold removeLater
  dsimp only
  rw [flush_eq, same, records, departed_modEntry_retiring, dropUrgent_posting]

theorem queuedMessages_queued {i : EntryIx} {s : State} : ∀ b ∈ queuedMessages i s, s.pool.buffers[b].mark = .queued := by
  intro b listed
  exact eq_of_beq (List.mem_filter.1 listed).2

section
variable {i : EntryIx} {s : State} (occupied : s.table[i].state ≠ .empty)
include occupied

theorem removeLater_keeps (flying : s.table[i].inFlight = true) : Keeps s (removeLater i s) := by
  have departs : Moves (s.flight, s) (s.flight, departed i (queuedMessages i s) s) :=
    departed_moves (.inl occupied) (.inr queuedMessages_queued)
  have entry : (departed i (queuedMessages i s) s).table[i].state ≠ .empty ∧
      (departed i (queuedMessages i s) s).table[i].inFlight = true := by
    simp only [departed, Entry.advanced]
    rw [table_set_same]
    exact ⟨occupied, flying⟩
  have leaves := Move.unlisted s.flight (departed i (queuedMessages i s) s) i
    { (departed i (queuedMessages i s) s).table[i] with state := .retiring, urgentListed := false }
    ⟨⟨fun _ => ⟨entry.1, rfl⟩, nofun, id⟩, entry.1, nofun, fun _ => .inr entry.2, rfl, rfl⟩
  rw [removeLater_eq, dropUrgent_modEntry]
  exact ((departs.trans leaves.moves).trans (posting_moves _ _ _)).passes.keeps.trans (withdrawalNotice_keeps _ _)

theorem removeNow_passes (idle : s.table[i].inFlight = false) : Passes s (removeNow i s) := by
  have same (bs : List BufIx) : vacate i (dropUrgent i (departed i bs s)) = vacate i (dropUrgent i { s with sched := freedBy bs s.sched }) := by
    simp [vacate, dropUrgent, modEntry, withEntry, withOutbound, departed, freedBy]
  rw [removeNow_eq, same]
  let s1 : State := { s with sched := freedBy s.pool.outbound[i] s.sched }
  have leaves := Move.unlisted s.flight s1 i { s.table[i] with urgentListed := false }
    ⟨⟨fun _ => ⟨occupied, rfl⟩, fun o => .inr ⟨o, rfl⟩, id⟩, occupied, occupied, fun o => .inl o, rfl, rfl⟩
  have gone := Move.vacate s.flight (dropUrgent i s1) i (by rw [dropUrgent_eq, table_set_same]; exact idle)
    (by rw [dropUrgent_eq]; simp) (by rw [dropUrgent_eq, table_set_same]; exact occupied)
  exact (((freedBy_moves _ _ s).trans leaves.moves).trans (gone.moves.trans (posting_moves _ _ _))).passes

theorem park_passes : Passes s (dropUrgent i (modEntry i (fun e => { e with state := .parked }) s)) := by
  rw [dropUrgent_modEntry]
  exact (Move.unlisted s.flight s i { s.table[i] with state := .parked, urgentListed := false }
    ⟨⟨fun _ => ⟨occupied, rfl⟩, nofun, id⟩, occupied, nofun, nofun, rfl, rfl⟩).passes

theorem resume_passes : Passes s (modEntry i (fun e => { e with state := .new, miss := 0, backoff := 0 }) s) := by
  have edit : EntryEdit i s.flight.target s.flight.target s.table[i] { s.table[i] with state := .new, miss := 0, backoff := 0 } :=
    ⟨⟨fun _ => ⟨occupied, rfl⟩, nofun, fun ⟨_, good, fail, dup⟩ => ⟨Nat.zero_le _, good, fail, dup⟩⟩, .inl occupied,
      ⟨nofun, fun gone => absurd gone occupied⟩, fun idle => absurd idle (not_or.2 ⟨nofun, nofun⟩), rfl, .same _ rfl⟩
  exact (modEntry_moves (g := fun e => { e with state := .new, miss := 0, backoff := 0 }) edit).passes

theorem zeroCounters_passes : Passes s (modEntry i zeroCounters s) :=
  (modEntry_moves (.plain (.inl occupied) rfl rfl rfl rfl rfl
    fun ⟨miss, _, _, _⟩ => ⟨miss, Nat.zero_le _, Nat.zero_le _, Nat.zero_le _⟩)).passes

end

theorem cmdRemove_keeps (s : State) : Keeps s (cmdRemove s).st := by
  unfold cmdRemove
  split
  · exact .refl s
  · split
    · exact .refl s
    · next occupied =>
      split
      · exact .refl s
      · split
        · next flying => exact removeLater_keeps occupied flying
        · next idle => exact (removeNow_passes occupied (Bool.eq_false_iff.2 idle)).keeps

theorem cmdPark_passes (s : State) : Passes s (cmdPark s).st := by
  unfold cmdPark
  split
  · exact .refl s
  · split
    · exact .refl s
    · next occupied =>
      split
      · exact .refl s
      · exact park_passes occupied

theorem cmdResume_passes (s : State) : Passes s (cmdResume s).st := by
  unfold cmdResume
  split
  · exact .refl s
  · split
    · exact .refl s
    · next occupied =>
      split
      · exact (resume_passes occupied).trans (wake_passes _)
      · exact .refl s

theorem cmdUrgent_passes (s : State) : Passes s (cmdUrgent s).st := by
  unfold cmdUrgent
  split
  · exact .refl s
  · next i _ =>
    split
    · exact .refl s
    · next occupied =>
      split
      · exact .refl s
      · next served =>
        split
        · exact wake_passes s
        · next new =>
          split
          · exact .refl s
          · next room =>
            have lists := Move.listed s.flight s i (by simpa using new) (Nat.lt_of_not_le room)
              ⟨occupied, fun parked => served (.inl parked), fun retiring => served (.inr retiring)⟩
            exact lists.passes.trans (wake_passes _)

/-- An entry as CLEAR_COUNTERS for all leaves it (R44). -/
def clearedEntry (e : Entry) : Entry := if e.state = .empty ∨ e.state = .retiring then e else zeroCounters e

theorem clearedEntry_passes (i : EntryIx) (s : State) : Passes s (modEntry i clearedEntry s) := by
  by_cases kept : s.table[i].state = .empty ∨ s.table[i].state = .retiring
  · have entry : clearedEntry s.table[i] = s.table[i] := if_pos kept
    have same : modEntry i clearedEntry s = s := by
      unfold modEntry
      rw [entry]
      simp [withEntry]
    rw [same]
    exact .refl s
  · have entry : clearedEntry s.table[i] = zeroCounters s.table[i] := if_neg kept
    have zeroed : modEntry i clearedEntry s = modEntry i zeroCounters s := by
      unfold modEntry
      rw [entry]
    rw [zeroed]
    exact zeroCounters_passes fun empty => kept (.inl empty)

/-- Entries of a list cleared one by one. -/
def clearEach (l : List EntryIx) (s : State) : State := l.foldl (fun t i => modEntry i clearedEntry t) s

theorem clearEach_passes (l : List EntryIx) (s : State) : Passes s (clearEach l s) := by
  induction l generalizing s with
  | nil => exact .refl s
  | cons i rest ih => exact (clearedEntry_passes i s).trans (ih _)

theorem clearEach_eq {l : List EntryIx} (once : l.Nodup) (s : State) : clearEach l s = { s with
    table := Vector.ofFn fun j => if j ∈ l then clearedEntry s.table[j] else s.table[j] } := by
  induction l generalizing s with
  | nil =>
    have same : s.table = Vector.ofFn fun j : EntryIx => if j ∈ [] then clearedEntry s.table[j] else s.table[j] :=
      Vector.ext fun j hj => by simp
    rw [← same]
    rfl
  | cons i rest ih =>
    obtain ⟨new, once⟩ := List.nodup_cons.1 once
    refine (ih once (modEntry i clearedEntry s)).trans (congrArg (fun t => { s with table := t }) (Vector.ext fun j hj => ?_))
    have entry := table_set_getElem s.table i ⟨j, hj⟩ (clearedEntry s.table[i])
    rw [Vector.getElem_ofFn, Vector.getElem_ofFn, modEntry_table, entry]
    by_cases this : i = ⟨j, hj⟩
    · subst this
      simp [new]
    · simp [Ne.symm this]

/-- CLEAR_COUNTERS for all is the same for each entry in turn. -/
theorem clearAll_eq (s : State) : clearAll s = clearEach (List.finRange 32) s := by
  rw [clearEach_eq (List.nodup_finRange 32)]
  refine congrArg (fun t => { s with table := t }) (Vector.ext fun j hj => ?_)
  rw [Vector.getElem_map, Vector.getElem_ofFn, if_pos (List.mem_finRange _)]
  rfl

theorem clearAll_passes (s : State) : Passes s (clearAll s) := clearAll_eq s ▸ clearEach_passes _ s

theorem cmdClearCounters_passes (s : State) : Passes s (cmdClearCounters s).st := by
  unfold cmdClearCounters
  split
  · exact clearAll_passes s
  · split
    · exact .refl s
    · split
      · exact .refl s
      · next occupied =>
        split
        · exact .refl s
        · exact zeroCounters_passes occupied

end Sys2Proof.Machine

/-! SUPPORT. The commands of the buffers, the sweep and the line, the resets, and the reads and writes of the register window, as
changes. -/

namespace Sys2Proof.Machine

/-! ## Buffers (chapters 5 and 6) -/

section
variable {p : Pool} {b : BufIx}

theorem staged_kept {y : Buffer} {x : Option BufIx} (vacant : p.staged = none) (free : b ∉ p.held) (mark : y.mark = p.buffers[b].mark)
    (sent : y.transmitted = p.buffers[b].transmitted) : PoolKept p { p with buffers := p.buffers.set b y, staged := some b } x x where
  nodup law := by
    have same : { p with buffers := p.buffers.set b y, staged := some b }.held.Perm (b :: p.held) := by
      refine List.perm_iff_count.2 fun c => ?_
      simp only [Pool.held, vacant, Option.toList_some, Option.toList_none, List.count_append, List.count_nil, List.count_cons]
      omega
    exact same.nodup_iff.2 (List.nodup_cons.2 ⟨free, law⟩)
  outbound := rfl
  broadcast := rfl
  marks c := by
    dsimp only
    rw [buffers_set_getElem]
    split
    · next same => exact same ▸ ⟨mark, sent⟩
    · exact ⟨rfl, rfl⟩
  reply := id

theorem discarded_kept (x : Option BufIx) : PoolKept p { p with staged := none } x x where
  nodup law := by
    refine law.sublist ?_
    simp only [Pool.held, Option.toList_none, List.nil_append]
    exact ((((List.sublist_append_right _ _).append_right _).append_right _).append_right _).append_right _
  outbound := rfl
  broadcast := rfl
  marks _ := ⟨rfl, rfl⟩
  reply := id

theorem opened_kept {rest : List BufIx} (x : Option BufIx) (vacant : p.readPort = none) (list : p.inbound = b :: rest) :
    PoolKept p { p with inbound := rest, readPort := some b } x x where
  nodup law := by
    refine List.Perm.nodup_iff (List.perm_iff_count.2 fun c => ?_) |>.1 law
    simp only [Pool.held, vacant, list, Option.toList_some, Option.toList_none, List.count_append, List.count_nil, List.count_cons]
    omega
  outbound := rfl
  broadcast := rfl
  marks _ := ⟨rfl, rfl⟩
  reply := id

theorem closed_kept (x : Option BufIx) : PoolKept p { p with readPort := none } x x where
  nodup law := by
    refine law.sublist ?_
    simp only [Pool.held, Option.toList_none, List.append_nil]
    exact (((List.sublist_append_left _ _).append_right _).append_right _).append_right _
  outbound := rfl
  broadcast := rfl
  marks _ := ⟨rfl, rfl⟩
  reply := id

end

theorem withPool_passes (s : State) (p : Pool) (h : PoolKept s.pool p s.flight.reply s.flight.reply) : Passes s { s with pool := p } :=
  (pool_moves _ s p h).passes

theorem bufferFreed_passes (s : State) : Passes s (bufferFreed s) := (bufferFreed_moves _ s).passes

theorem cmdStageOpen_passes (s : State) : Passes s (cmdStageOpen s).st := by
  unfold cmdStageOpen
  split
  · exact .refl s
  · next vacant =>
    split
    · exact .refl s
    · split
      · exact .refl s
      · next b found =>
        have opens := withPool_passes s _ (staged_kept (y := { s.pool.buffers[b] with payload := [] })
          (Option.not_isSome_iff_eq_none.1 vacant) (lowestFree_not_held found) rfl rfl)
        dsimp only
        exact opens.trans (modPort_passes _ _ fun _ => ⟨by rfl, by rfl⟩)

/-- A commit to an entry in one piece: the pool, the write pointer, and the wake (R100). -/
theorem commitEntry_eq (i : EntryIx) (b : BufIx) (id : Byte) (s : State) : (commitEntry i b id s).st =
    wake (modPort (fun p => { p with stagePtr := 0 }) { s with pool := { s.pool with
      buffers := s.pool.buffers.set b (committed id s.pool.buffers[b])
      staged := none
      outbound := s.pool.outbound.set i (s.pool.outbound[i] ++ [b]) } }) := rfl

theorem commitEntry_passes {s : State} {i : EntryIx} {b : BufIx} (id : Byte) (staged : s.pool.staged = some b)
    (occupied : s.table[i].state ≠ .empty) (room : s.pool.outbound[i].length < s.params.maxq) : Passes s (commitEntry i b id s).st := by
  have joins := Move.enqueue s.flight s i b (committed id s.pool.buffers[b]) staged rfl rfl occupied room
  rw [commitEntry_eq]
  exact (joins.passes.trans (modPort_passes _ _ fun _ => ⟨by rfl, by rfl⟩)).trans (wake_passes _)

theorem commitBroadcast_eq (b : BufIx) (id : Byte) (s : State) : (commitBroadcast b id s).st =
    wake (modPort (fun p => { p with stagePtr := 0 }) { s with pool := { s.pool with
      buffers := s.pool.buffers.set b (committed id s.pool.buffers[b])
      staged := none
      broadcast := s.pool.broadcast ++ [b] } }) := rfl

theorem commitBroadcast_passes {s : State} {b : BufIx} (id : Byte) (staged : s.pool.staged = some b) (room : s.pool.broadcast.length < 4) :
    Passes s (commitBroadcast b id s).st := by
  have joins := Move.enqueueAll s.flight s b (committed id s.pool.buffers[b]) staged rfl rfl room
  rw [commitBroadcast_eq]
  exact (joins.passes.trans (modPort_passes _ _ fun _ => ⟨by rfl, by rfl⟩)).trans (wake_passes _)

theorem cmdStageCommit_passes (s : State) : Passes s (cmdStageCommit s).st := by
  unfold cmdStageCommit
  split
  · exact .refl s
  · next b staged =>
    split
    · exact .refl s
    · split
      · split
        · exact .refl s
        · next room => exact commitBroadcast_passes _ staged (Nat.lt_of_not_le room)
      · split
        · exact .refl s
        · next occupied =>
          split
          · exact .refl s
          · split
            · exact .refl s
            · next room => exact commitEntry_passes _ staged (fun empty => occupied (.inl empty)) (Nat.lt_of_not_le room)

theorem cmdStageDiscard_passes (s : State) : Passes s (cmdStageDiscard s).st := by
  unfold cmdStageDiscard
  split
  · exact .refl s
  · dsimp only
    exact ((withPool_passes s _ (discarded_kept _)).trans (bufferFreed_passes _)).trans (modPort_passes _ _ fun _ => ⟨by rfl, by rfl⟩)

theorem cancelInFlight_keeps {s : State} (i : EntryIx) {b : BufIx} (marked : s.pool.buffers[b].mark ≠ .queued) :
    Keeps s (cancelInFlight i b s) := by
  have pends : Marking s.pool b { s.pool.buffers[b] with mark := .cancelPending } s.flight.message s.flight.message :=
    .pending _ marked nofun rfl
  have move := Move.mark s.flight s b _ _ pends fun _ _ _ => .inl rfl
  unfold cancelInFlight
  exact (move.passes.keeps.trans (modRecord_keeps (fun _ => by rfl) _)).trans (withdrawalNotice_keeps _ _)

theorem cancelFound_keeps {s : State} {i : EntryIx} (b : BufIx) (occupied : s.table[i].state ≠ .empty) :
    Keeps s (cancelFound i b s).st := by
  unfold cancelFound
  split
  · next mark => exact (departWith_moves _ _ (.inl occupied) (.queued _ mark)).passes.keeps
  · next mark => exact cancelInFlight_keeps i (ne_of_eq_of_ne mark nofun)
  · exact .refl s

theorem cancelBroadcast_passes (b : BufIx) (s : State) : Passes s (cancelBroadcast b s).st := by
  unfold cancelBroadcast
  split
  · next mark => exact ((departBroadcast_moves (.queued _ mark)).trans (post_moves _ _ _)).passes
  · exact .refl s

theorem cmdCancel_keeps (s : State) : Keeps s (cmdCancel s).st := by
  unfold cmdCancel
  split
  · exact .refl s
  · split
    · split
      · exact .refl s
      · exact (cancelBroadcast_passes _ s).keeps
    · split
      · exact .refl s
      · next occupied =>
        split
        · exact .refl s
        · exact cancelFound_keeps _ occupied

theorem cmdRxOpen_passes (s : State) : Passes s (cmdRxOpen s).st := by
  unfold cmdRxOpen
  split
  · exact .refl s
  · next vacant =>
    split
    · exact .refl s
    · next list =>
      dsimp only
      exact (withPool_passes s _ (opened_kept _ (Option.not_isSome_iff_eq_none.1 vacant) list)).trans (modPort_passes _ _ fun _ => ⟨by rfl, by rfl⟩)

theorem cmdRxRelease_passes (s : State) : Passes s (cmdRxRelease s).st := by
  unfold cmdRxRelease
  split
  · exact .refl s
  · dsimp only
    exact ((withPool_passes s _ (closed_kept _)).trans (bufferFreed_passes _)).trans (modPort_passes _ _ fun _ => ⟨by rfl, by rfl⟩)

/-! ## The sweep and the line (chapters 7 and 8) -/

theorem withSweep_passes (s : State) (w : Sweep) (h : s.sweep.Lawful s.flight.probed → w.Lawful s.flight.probed) : Passes s (withSweep w s) :=
  (Move.sweep _ s w _ h).passes

theorem cmdSweepStart_passes (s : State) : Passes s (cmdSweepStart s).st := by
  unfold cmdSweepStart
  dsimp only
  split
  · exact .refl s
  · next range =>
    split
    · exact .refl s
    · next idle =>
      refine (withSweep_passes s _ fun law => ⟨fun _ => ?_, fun probing => ?_, fun probing => ?_, fun stopping => ?_⟩).trans (wake_passes _)
      · dsimp only
        omega
      · cases probing
      · exact absurd (law.2.1 (law.2.2.1 probing)).1 idle
      · cases stopping

theorem cmdSweepStop_passes (s : State) : Passes s (cmdSweepStop s).st := by
  unfold cmdSweepStop
  split
  · exact .refl s
  · next active =>
    split
    · next outstanding =>
      exact withSweep_passes s { s.sweep with state := .stopping } fun law =>
        ⟨fun _ => law.1 (ne_of_eq_of_ne active nofun), fun probing => ⟨(nofun : SweepState.stopping ≠ .idle), (law.2.1 probing).2⟩,
          law.2.2.1, fun _ => outstanding⟩
    · next settled =>
      refine (withSweep_passes s { s.sweep with state := .idle } fun law => ⟨fun running => absurd rfl running,
        fun probing => absurd probing settled, law.2.2.1, fun stopping => absurd stopping nofun⟩).trans (post_passes _ _)
  · exact .refl s

/-- Line control's record changed, with a pending quiet request left as it is. -/
theorem relined_keeps (s : State) (l : LineControl) (noise : l.noise = s.line.noise) (stray : l.stray = s.line.stray)
    (count : s.line.contCount ≤ 7 → l.contCount ≤ 7) (cfg : l.cfg = s.line.cfg) (quiet : l.quiet = s.line.quiet)
    (live : s.engine.state ≠ .idle → l.state = .running ∨ l.state = .draining) : Keeps s { s with line := l } where
  runs := withLine_runs s l noise stray count cfg
  line law := by
    obtain ⟨record, _, tx, guard, driver, wait⟩ := law
    exact ⟨record, live, tx, guard, driver, by rw [← wait, quiet]⟩

theorem cmdLineStart_keeps (s : State) : Keeps s (cmdLineStart s).st := by
  have starts : Keeps s (wake (lineRun s)) :=
    (relined_keeps s { s.line with state := .running, contCount := 0 } rfl rfl (fun _ => Nat.zero_le _) rfl rfl fun _ => .inl rfl).trans
      (wake_passes _).keeps
  unfold cmdLineStart
  split
  · exact starts
  · exact (wake_passes s).keeps
  · exact (relined_keeps s { s.line with state := .running } rfl rfl id rfl rfl fun _ => .inl rfl).trans (wake_passes _).keeps
  · exact starts

theorem cmdLineHalt_keeps (s : State) : Keeps s (cmdLineHalt s).st := by
  unfold cmdLineHalt
  split
  · split
    · next idle =>
      exact (relined_keeps s { s.line with state := .stopped } rfl rfl id rfl rfl fun away => absurd idle away).trans
        (post_passes _ _).keeps
    · exact relined_keeps s { s.line with state := .draining } rfl rfl id rfl rfl fun _ => .inr rfl
  · exact .refl s
  · exact .refl s
  · exact .refl s

theorem abortLine_keeps (high : Bool) (s : State) : Keeps s (abortLine high s) where
  runs := ((abandon_runs .abort high s).trans
    (withLine_runs _ { (abandon .abort high s).line with state := .stopped, quiet := none } rfl rfl id rfl)).trans (post_runs _ _)
  line law := (post_passes _ _).alike.law (abandoned_lineLaw .abort high .stopped law)

theorem cmdLineAbort_keeps (high : Bool) (s : State) : Keeps s (cmdLineAbort high s).st := by
  unfold cmdLineAbort
  split
  · exact abortLine_keeps high s
  · exact abortLine_keeps high s
  · exact .refl s
  · exact .refl s

/-! ## Resets (R168, R197, R198) -/

theorem pinReset_keeps (s : State) : Keeps s (pinReset s.port.wide s) :=
  ⟨(Cleared.pin _ s).changes.runs rfl, fun _ => lineLaw_idle rfl ⟨rfl, rfl, rfl⟩ rfl⟩

theorem lineReset_keeps (s : State) : Keeps s (lineReset s) :=
  ⟨(Cleared.line _ s).changes.runs rfl, fun _ => lineLaw_idle rfl ⟨rfl, rfl, rfl⟩ rfl⟩

theorem cmdDeviceReset_keeps (s : State) : Keeps s (cmdDeviceReset s).st := by
  refine (pinReset_keeps s).trans (Move.passes (.events _ _ (resetQueue 0x0F#8 2#16) ⟨fun _ => ?_, fun _ => ?_, fun _ => ?_⟩)).keeps
  · exact Nat.zero_le _
  · exact ⟨(by decide : 1 ≤ 32), fun lost => absurd rfl lost⟩
  · exact (by decide : (0x0F#8).toNat ≤ 15)

theorem resetAsserted_keeps (s : State) : Keeps s (resetAsserted s) := by
  have stopped : Keeps s (modFramer (fun _ => {}) s) :=
    ⟨modFramer_runs _ s, fun ⟨record, live, _, _, _, quiet⟩ => ⟨record, live, nofun, nofun, nofun, quiet⟩⟩
  exact stopped.trans (modPort_passes _ _ fun _ => ⟨by rfl, by rfl⟩).keeps

end Sys2Proof.Machine

/-! SUPPORT. The reads and writes of the register window as changes; and with them every command's effect. -/

namespace Sys2Proof.Machine

/-! ## Data ports (R99, R133, R175) -/

theorem modBuffer_passes {g : Buffer → Buffer} (b : BufIx) (s : State) (mark : ∀ x, (g x).mark = x.mark)
    (sent : ∀ x, (g x).transmitted = x.transmitted) : Passes s (modBuffer b g s) := (modBuffer_moves mark sent).passes

theorem appendByte_passes (b : BufIx) (d : Byte) (s : State) : Passes s (appendByte b d s).2 := by
  unfold appendByte
  split
  · dsimp only
    exact (modBuffer_passes b s (fun _ => by rfl) fun _ => by rfl).trans (modPort_passes _ _ fun _ => ⟨by rfl, by rfl⟩)
  · exact .refl s

theorem writeStgdata_passes (data : Word) (s : State) : Passes s (writeStgdata data s) := by
  unfold writeStgdata
  split
  · exact hostError_passes _ s
  · next b _ =>
    have first := appendByte_passes b (lowByte data) s
    have both := first.trans (appendByte_passes b (highByte data) _)
    dsimp only
    exact passes_ite (passes_ite both (both.trans (hostError_passes _ _))) (passes_ite first (first.trans (hostError_passes _ _)))

theorem readByte_passes (s : State) : Passes s (readByte s).2 := by
  unfold readByte
  split
  · dsimp only
    exact modPort_passes _ s fun _ => ⟨by rfl, by rfl⟩
  · exact .refl s

theorem readRxdata_passes (s : State) : Passes s (readRxdata s).2 := by
  have first := readByte_passes s
  have both := first.trans (readByte_passes _)
  unfold readRxdata
  dsimp only
  split
  · exact passes_ite both (both.trans (hostError_passes _ _))
  · exact passes_ite first (first.trans (hostError_passes _ _))

theorem popped_kept {q : EventQueue} {e : Event} {rest : List Event} (head : q.records = e :: rest) : EventsKept q (popped e rest q) := by
  have length : q.records.length = rest.length + 1 := by rw [head]; rfl
  unfold popped
  split
  · next unlost =>
    refine ⟨id, fun law => ⟨?_, fun lost => absurd unlost lost⟩, id⟩
    dsimp only
    omega
  · next lost =>
    refine ⟨fun _ => Nat.zero_le _, fun law => ⟨?_, fun lost => absurd rfl lost⟩, id⟩
    have full := law.2 lost
    simp only [List.length_append, List.length_singleton]
    omega

theorem readEvpop_passes (s : State) : Passes s (readEvpop s).2 := by
  unfold readEvpop
  split
  · exact .refl s
  · next head => exact (Move.events _ s _ (popped_kept head)).passes

/-! ## The 16-bit registers and the window (R186, R193, R194) -/

theorem checkIndex_passes (r : WideReg) (s : State) : Passes s (checkIndex r s) := by
  unfold checkIndex
  split
  · split
    · exact hostError_passes _ s
    · exact .refl s
  · exact .refl s

theorem readLower_passes (r : WideReg) (s : State) : Passes s (readLower r s).2 := by
  unfold readLower
  dsimp only
  exact (checkIndex_passes r s).trans (modPort_passes _ _ fun _ => ⟨by rfl, by rfl⟩)

theorem readUpper_passes (r : WideReg) (s : State) : Passes s (readUpper r s).2 := by
  unfold readUpper
  split
  · split
    · dsimp only
      exact modPort_passes _ s fun _ => ⟨by rfl, by rfl⟩
    · exact checkIndex_passes r s
  · exact checkIndex_passes r s

theorem readWide_passes (r : WideReg) (upper : Bool) (s : State) : Passes s (readWide r upper s).2 := by
  unfold readWide
  split
  · exact readUpper_passes r s
  · exact readLower_passes r s

theorem putOption_passes {i : EntryIx} {f : EntryField} {v : Bool} {e : Entry} {s : State} (put : putOption f v s.table[i] = some e)
    (occupied : s.table[i].state ≠ .empty) : Passes s (withEntry i e s) := by
  have edit : EntryEdit i s.flight.target s.flight.target s.table[i] e := by
    unfold putOption at put
    split at put
    · exact Option.some.inj put ▸ .plain (.inl occupied) rfl rfl rfl rfl rfl id
    · exact Option.some.inj put ▸ .plain (.inl occupied) rfl rfl rfl rfl rfl id
    · cases put
  exact (modEntry_moves (g := fun _ => e) edit).passes

theorem writeWindata_passes (data : Word) (s : State) : Passes s (writeWindata data s) := by
  unfold writeWindata
  dsimp only
  split
  · exact hostError_passes _ s
  · split
    · exact hostError_passes _ s
    · next put =>
      split
      · exact hostError_passes _ s
      · next occupied => exact passes_ite (hostError_passes _ s) (putOption_passes put occupied)
  · split
    · exact hostError_passes _ s
    · next k _ _ x _ =>
      have ring : Moves (s.flight, s) (s.flight, { s with sched := { s.sched with ring := s.sched.ring.set k x } }) :=
        sched_moves _ s _ rfl id
      exact ring.passes.trans (wake_passes _)

/-! ## The latch, the enables and the parameters (R80, R173, R180, R182, R196) -/

theorem writeHerr_passes (data : Word) (s : State) : Passes s (writeHerr data s) := by
  unfold writeHerr
  split
  · exact (Move.port _ s { s.port with latch := { s.port.latch with flag := false, count := 0 } }
      ⟨fun _ => Nat.zero_le _, fun _ => ⟨fun counted => absurd rfl counted, fun set => by cases set⟩, rfl⟩).passes
  · exact .refl s

theorem writeIntset_passes (data : Word) (s : State) : Passes s (writeIntset data s) :=
  passes_ite (modPort_passes _ s fun _ => ⟨by rfl, by rfl⟩) (hostError_passes _ s)

theorem writeIntclr_passes (data : Word) (s : State) : Passes s (writeIntclr data s) :=
  passes_ite (modPort_passes _ s fun _ => ⟨by rfl, by rfl⟩) (hostError_passes _ s)

theorem writeEvfilter_passes (data : Word) (s : State) : Passes s (writeEvfilter data s) := by
  unfold writeEvfilter
  split
  · next range =>
    exact (Move.events _ s { s.events with filter := lowByte data } ⟨id, id, fun _ => Nat.le_of_lt_succ range⟩).passes
  · exact hostError_passes _ s

/-- A write of a parameter other than RINGLEN. -/
theorem writeParam_passes {lo hi : Nat} {v : Byte} {g : Params → Params} {s : State} (ring : ∀ p, (g p).ringLen = p.ringLen)
    (range : lo ≤ v.toNat ∧ v.toNat ≤ hi → s.RangeLaw → { s with params := g s.params }.RangeLaw) : Passes s (writeParam lo hi v g s) := by
  unfold writeParam
  split
  · next taken =>
    refine (Move.sched _ s (g s.params) s.sched ⟨rfl, range taken, fun law => ?_⟩).passes
    unfold State.SchedulerLaw
    dsimp only
    rw [ring]
    exact law
  · exact hostError_passes _ s

theorem writeRinglen_passes (data : Word) (s : State) : Passes s (writeRinglen data s) := by
  unfold writeRinglen
  dsimp only
  split
  · next range =>
    refine (Move.sched _ s { s.params with ringLen := (lowByte data).toNat } (wake s).sched ⟨rfl, ?_, fun law => ?_⟩).passes
    · rintro ⟨retries, lost, recover, busy, backoff, maxq, reserve, pace, _, rest⟩
      exact ⟨retries, lost, recover, busy, backoff, maxq, reserve, pace, range, rest⟩
    · refine ⟨range.1, range.2, Nat.zero_le _, fun dormant => ?_, fun waits => ?_, fun _ => range.1⟩
      · cases walk : s.sched.walk <;> simp [wake, arrival, walk] at dormant
      · cases walk : s.sched.walk <;> simp [wake, arrival, walk] at waits
        exact law.2.2.2.2.1 walk
  · exact hostError_passes _ s

theorem lineConfig_range {r : LineReg} {v : Byte} {s : State} (taken : lineRegInRange r v = true) (law : s.RangeLaw) :
    { s with line := { s.line with cfg := s.line.cfg.put r v } }.RangeLaw := by
  cases r <;> simp only [lineRegInRange, decide_eq_true_eq] at taken <;>
    simp only [State.RangeLaw, LineConfig.put] at law ⊢ <;> simp [law, taken]

theorem writeLineConfig_keeps (r : LineReg) (data : Word) (s : State) : Keeps s (writeLineConfig r data s) := by
  unfold writeLineConfig
  split
  · exact (hostError_passes _ s).keeps
  · split
    · next taken =>
      have configured := Control.line s.flight s { s.line with cfg := s.line.cfg.put r (lowByte data) } id (lineConfig_range taken)
      refine ⟨(configured.changes.runs rfl).trans (modFramer_runs _ _), Alike.law ⟨rfl, rfl, ?_, ?_, ?_, rfl, .rfl⟩⟩ <;>
        (simp only [modFramer, dropAssembly]; split <;> rfl)
    · exact (hostError_passes _ s).keeps

/-! ## Writes of CMD and of the other registers (R188 to R191, R196) -/

theorem writeCmd_keeps (code : Byte) (s : State) : Keeps s (writeCmd code s) := by
  unfold writeCmd
  split
  · exact commandAccess_keeps _ ((cmdAdd_passes s).keeps)
  · exact commandAccess_keeps _ (cmdRemove_keeps s)
  · exact commandAccess_keeps _ ((cmdPark_passes s).keeps)
  · exact commandAccess_keeps _ ((cmdResume_passes s).keeps)
  · exact commandAccess_keeps _ ((cmdUrgent_passes s).keeps)
  · exact commandAccess_keeps _ ((cmdClearCounters_passes s).keeps)
  · exact commandAccess_keeps _ ((cmdStageOpen_passes s).keeps)
  · exact commandAccess_keeps _ ((cmdStageCommit_passes s).keeps)
  · exact commandAccess_keeps _ ((cmdStageDiscard_passes s).keeps)
  · exact commandAccess_keeps _ (cmdCancel_keeps s)
  · exact commandAccess_keeps _ ((cmdRxOpen_passes s).keeps)
  · exact commandAccess_keeps _ ((cmdRxRelease_passes s).keeps)
  · exact commandAccess_keeps _ ((cmdSweepStart_passes s).keeps)
  · exact commandAccess_keeps _ ((cmdSweepStop_passes s).keeps)
  · exact commandAccess_keeps _ (cmdLineStart_keeps s)
  · exact commandAccess_keeps _ (cmdLineHalt_keeps s)
  · exact commandAccess_keeps _ (cmdLineAbort_keeps true s)
  · exact commandAccess_keeps _ (lineReset_keeps s)
  · exact commandAccess_keeps _ (cmdDeviceReset_keeps s)
  · exact commandAccess_keeps _ ((hostError_passes _ s).keeps)

theorem writeInqthr_passes (data : Word) (s : State) : Passes s (writeInqthr data s) := by
  refine writeParam_passes (fun _ => rfl) fun taken law => ?_
  simp only [State.RangeLaw] at law ⊢
  simp [law, taken]

/-- The eight parameters that REGISTER_WRITE sets, with their ranges (R196). -/
theorem writeParameter_passes (v : Byte) (s : State) :
    Passes s (writeParam 0 255 v (fun p => { p with pace := v.toNat }) s) ∧
    Passes s (writeParam 1 15 v (fun p => { p with recover := v.toNat }) s) ∧
    Passes s (writeParam 0 7 v (fun p => { p with retries := v.toNat }) s) ∧
    Passes s (writeParam 1 15 v (fun p => { p with lostLim := v.toNat }) s) ∧
    Passes s (writeParam 1 15 v (fun p => { p with busyLim := v.toNat }) s) ∧
    Passes s (writeParam 1 15 v (fun p => { p with backoff := v.toNat }) s) ∧
    Passes s (writeParam 1 8 v (fun p => { p with maxq := v.toNat }) s) ∧
    Passes s (writeParam 0 8 v (fun p => { p with reserve := v.toNat }) s) := by
  refine ⟨?_, ?_, ?_, ?_, ?_, ?_, ?_, ?_⟩ <;> refine writeParam_passes (fun _ => rfl) fun taken law => ?_ <;>
    simp only [State.RangeLaw] at law ⊢ <;> simp [law, taken]

theorem writeRegister_keeps (addr : BitVec 6) (data : Word) (s : State) : Keeps s (writeRegister addr data s) := by
  obtain ⟨pace, recover, retries, lostLim, busyLim, backoff, maxq, reserve⟩ := writeParameter_passes (lowByte data) s
  have field (g : Port → Port) (kept : ∀ p, (g p).latch = p.latch ∧ (g p).wide = p.wide) : Keeps s (modPort g s) := (modPort_passes g s kept).keeps
  unfold writeRegister
  dsimp only
  split
  case h_1 => exact writeCmd_keeps _ s
  case h_6 => exact keeps_ite (field _ fun _ => ⟨rfl, rfl⟩) ((hostError_passes _ s).keeps)
  case h_9 => exact (writeHerr_passes data s).keeps
  case h_10 => exact (writeWindata_passes data s).keeps
  case h_11 => exact (writeStgdata_passes data s).keeps
  case h_12 => exact (writeEvfilter_passes data s).keeps
  case h_13 => exact (writeIntset_passes data s).keeps
  case h_14 => exact (writeIntclr_passes data s).keeps
  case h_15 => exact (writeInqthr_passes data s).keeps
  case h_16 => exact (writeRinglen_passes data s).keeps
  case h_17 => exact pace.keeps
  case h_18 => exact recover.keeps
  case h_19 => exact retries.keeps
  case h_20 => exact lostLim.keeps
  case h_21 => exact busyLim.keeps
  case h_22 => exact backoff.keeps
  case h_23 => exact maxq.keeps
  case h_24 => exact reserve.keeps
  case h_32 => exact (hostError_passes _ s).keeps
  case h_25 | h_26 | h_27 | h_28 | h_29 | h_30 | h_31 => exact writeLineConfig_keeps _ data s
  all_goals exact field _ fun _ => ⟨rfl, rfl⟩

/-! ## Every effect -/

/-- Every command's effect but that of the rise of RESET# is made of changes, with the exchange in flight before it and after it, and does not end the law of the line. -/
theorem effect_keeps {c : Instr} (rise : ∀ b, c ≠ .pinReset b) (s : State) : Keeps s (effect c s) := by
  cases c with
  | pinReset b => exact absurd rfl (rise b)
  | resetAsserted => exact resetAsserted_keeps s
  | add => exact commandAccess_keeps _ ((cmdAdd_passes s).keeps)
  | remove => exact commandAccess_keeps _ (cmdRemove_keeps s)
  | park => exact commandAccess_keeps _ ((cmdPark_passes s).keeps)
  | resume => exact commandAccess_keeps _ ((cmdResume_passes s).keeps)
  | urgent => exact commandAccess_keeps _ ((cmdUrgent_passes s).keeps)
  | clearCounters => exact commandAccess_keeps _ ((cmdClearCounters_passes s).keeps)
  | stageOpen => exact commandAccess_keeps _ ((cmdStageOpen_passes s).keeps)
  | stageCommit => exact commandAccess_keeps _ ((cmdStageCommit_passes s).keeps)
  | stageDiscard => exact commandAccess_keeps _ ((cmdStageDiscard_passes s).keeps)
  | cancel => exact commandAccess_keeps _ (cmdCancel_keeps s)
  | rxOpen => exact commandAccess_keeps _ ((cmdRxOpen_passes s).keeps)
  | rxRelease => exact commandAccess_keeps _ ((cmdRxRelease_passes s).keeps)
  | sweepStart => exact commandAccess_keeps _ ((cmdSweepStart_passes s).keeps)
  | sweepStop => exact commandAccess_keeps _ ((cmdSweepStop_passes s).keeps)
  | lineStart => exact commandAccess_keeps _ (cmdLineStart_keeps s)
  | lineHalt => exact commandAccess_keeps _ (cmdLineHalt_keeps s)
  | lineAbort high => exact commandAccess_keeps _ (cmdLineAbort_keeps high s)
  | lineReset => exact commandAccess_keeps _ (lineReset_keeps s)
  | deviceReset => exact commandAccess_keeps _ (cmdDeviceReset_keeps s)
  | unknownCommand code => exact writeCmd_keeps code s
  | stgdataWrite data => exact writeAccess_keeps ((writeStgdata_passes data s).keeps)
  | rxdataRead => exact readAccess_keeps ((readRxdata_passes s).keeps)
  | evpopRead => exact readAccess_keeps ((readEvpop_passes s).keeps)
  | windataRead => exact readAccess_keeps ((readLower_passes _ s).keeps)
  | windataWrite data => exact writeAccess_keeps ((writeWindata_passes data s).keeps)
  | wideRegisterRead r upper => exact readAccess_keeps ((readWide_passes r upper s).keeps)
  | herrWrite data => exact writeAccess_keeps ((writeHerr_passes data s).keeps)
  | intsetWrite data => exact writeAccess_keeps ((writeIntset_passes data s).keeps)
  | intclrWrite data => exact writeAccess_keeps ((writeIntclr_passes data s).keeps)
  | lineConfigWrite r data => exact writeAccess_keeps (writeLineConfig_keeps r data s)
  | ringlenWrite data => exact writeAccess_keeps ((writeRinglen_passes data s).keeps)
  | inqthrWrite data => exact writeAccess_keeps ((writeInqthr_passes data s).keeps)
  | evfilterWrite data => exact writeAccess_keeps ((writeEvfilter_passes data s).keeps)
  | registerWrite addr data => exact writeAccess_keeps (writeRegister_keeps addr data s)
  | droppedAccess => exact writeAccess_keeps (.refl s)
  | startEdgeCheck high => exact ⟨startEdgeCheck_runs high s, (startEdgeCheck_alike high s).law⟩
  | strayCharacter data stop =>
    exact ⟨completeIn_runs (fun _ t => watchCharacter_runs t) s,
      fun law => completeIn_lineLaw law fun _ t => (watchCharacter_alike t).law⟩
  | huntCharacter data stop =>
    exact ⟨completeIn_runs (fun edge t => huntCharacter_runs edge data stop t) s,
      fun law => completeIn_lineLaw law fun edge _ held => huntCharacter_lineLaw held edge data stop⟩
  | collectCharacter data stop =>
    exact ⟨completeIn_runs (fun _ t => collectCharacter_runs data stop t) s,
      fun law => completeIn_lineLaw law fun _ _ held => collectCharacter_lineLaw held data stop⟩
  | discardCharacter data stop =>
    exact ⟨completeIn_runs (fun _ t => discardCharacter_runs stop t) s,
      fun law => completeIn_lineLaw law fun _ _ => Alike.law ⟨rfl, rfl, rfl, rfl, rfl, rfl, .rfl⟩⟩
  | breakCharacter => exact ⟨breakCharacter_runs s, breakCharacter_lineLaw⟩
  | echoComparison start data stop first =>
    exact ⟨echoComparison_runs start data stop first s, fun law => echoComparison_lineLaw law start data stop first⟩
  | contentionStop high => exact ⟨contentionStop_runs high s, fun law => contentionStop_lineLaw law high⟩
  | frameSent high => exact ⟨frameSent_runs high s, fun law => frameSent_lineLaw law high⟩
  | lineRelease => exact ⟨lineRelease_runs s, lineRelease_lineLaw⟩
  | gapExpiry => exact ⟨gapExpiry_runs s, gapExpiry_lineLaw⟩
  | takeLimit => exact ⟨takeLimit_runs s, takeLimit_lineLaw⟩
  | drainLimit => exact ⟨drainLimit_runs s, drainLimit_lineLaw⟩
  | quietDeadline => exact ⟨quietDeadline_runs s, quietDeadline_lineLaw⟩
  | babbleDeadline => exact ⟨babbleDeadline_runs s, babbleDeadline_lineLaw⟩
  | paceExpiry => exact ⟨paceExpiry_runs s, paceExpiry_lineLaw⟩
  | startEdge wait => exact ⟨startEdge_runs wait s, (startEdge_alike wait s).law⟩
  | receiverRearm wait => exact ⟨receiverRearm_runs wait s, (receiverRearm_alike wait s).law⟩

end Sys2Proof.Machine

/-! SUPPORT. Every step is made of changes, and so the laws that no change ends are those that no step ends. -/

namespace Sys2Proof.Machine

/-! ## The look and the step -/

theorem begun_changes (x : Exchange) (s : State) : Changes (x.flight, s) (x.flight, begun x s) :=
  (engaged_changes _ s { s.engine with state := .settleWait, record := some { exch := x } } nofun rfl).trans
    (line_changes _ _ _ rfl rfl id rfl)

/-- A look from a state with nothing in flight, with the exchange that is in flight then. -/
theorem Looks.changes {s t : State} (h : Looks s t) : ∃ g, Changes ({}, s) (g, t) ∧ (s.flight = {} → g = t.flight) := by
  rcases h with idles | ⟨x, u, before, after⟩
  · exact ⟨{}, Moves.changes idles, fun vacant => (Moves.flight_eq idles ▸ vacant).symm⟩
  · refine ⟨x.flight, (before.changes.trans (begun_changes x u)).trans after.changes, fun _ => ?_⟩
    have flight : t.flight = (begun x u).flight := after.flight_eq
    rw [flight]
    rfl

theorem mayLook_idle {s : State} (h : mayLook s = true) : s.engine.state = .idle :=
  eq_of_beq (Bool.and_eq_true_iff.1 h).1

/-- The end of a step is made of changes; where the engine holds a record just while it is out of IDLE, with the exchange in flight
before it and after it. -/
theorem finish_changes (s : State) : ∃ f g, Changes (f, s) (g, finish s) ∧ (s.RecordLaw → f = s.flight ∧ g = (finish s).flight) := by
  rcases finish_cases s with ⟨_, eq⟩ | ⟨_, _, eq⟩ | ⟨_, free, eq⟩ <;> rw [eq]
  · exact ⟨s.flight, s.flight, .refl _, fun _ => ⟨rfl, rfl⟩⟩
  · have cleared := sched_moves s.flight s { s.sched with lookDue := false } rfl id
    exact ⟨s.flight, s.flight, cleared.changes, fun _ => ⟨rfl, rfl⟩⟩
  · have cleared : Idles s { s with sched := { s.sched with lookDue := false, urgentDeferred := none } } := sched_moves {} s _ rfl id
    obtain ⟨g, changes, flight⟩ := (cleared.looks (look_looks _)).changes
    refine ⟨{}, g, changes, fun law => ?_⟩
    have vacant : s.flight = {} := flight_of_none (law.1 (mayLook_idle free))
    exact ⟨vacant.symm, flight vacant⟩

/-- The part with another bus width. A pin reset from it is the same: it looks at the clock and the queue only. -/
def State.wired (b : Bool) (s : State) : State := { s with port := { s.port with wide := b } }

theorem record_kept {s t : State} (h : Runs s t) (law : s.RecordLaw) : t.RecordLaw :=
  Changes.keeps (L := fun p => p.2.RecordLaw) (fun _ _ => Change.keeps_record) h law

/-- A law of the state and its flight that no change ends, in a state whose engine holds a record just while it is out of IDLE, is one
that no command ends. -/
theorem command_keeps_flight {L : Flight × State → Prop} (keeps : ∀ p q, Change p q → L p → L q)
    (wired : ∀ f s b, L (f, s) → L (f, s.wired b)) {c : Instr} {s t : State}
    (h : exec c s = .next t) (record : s.RecordLaw) (law : L (s.flight, s)) : t.RecordLaw ∧ L (t.flight, t) := by
  have along {u : State} (run : Runs s u) : u.RecordLaw ∧ L (u.flight, u) := ⟨record_kept run record, Changes.keeps keeps run law⟩
  rcases exec_cases h with ⟨b, _, rfl⟩ | rfl | rfl | ⟨rise, rfl⟩
  · exact ⟨⟨fun _ => rfl, fun _ => rfl⟩, Changes.keeps keeps (pinReset_keeps (s.wired b)).runs (wired _ s b law)⟩
  · exact along (resetAsserted_keeps s).runs
  · exact ⟨record, law⟩
  · obtain ⟨record, law⟩ := along (effect_keeps rise s).runs
    obtain ⟨f, g, changes, flights⟩ := finish_changes (effect c s)
    obtain ⟨rfl, rfl⟩ := flights record
    exact ⟨Changes.keeps (L := fun p => p.2.RecordLaw) (fun _ _ => Change.keeps_record) changes record, changes.keeps keeps law⟩

/-- A law of the state alone that no change ends is one that no command ends. -/
theorem command_keeps {L : State → Prop} (keeps : ∀ p q : Flight × State, Change p q → L p.2 → L q.2)
    (wired : ∀ s b, L s → L (s.wired b)) {c : Instr} {s t : State}
    (h : exec c s = .next t) (law : L s) : L t := by
  have along {p q : Flight × State} (changes : Changes p q) : L p.2 → L q.2 := Changes.keeps (L := fun p => L p.2) keeps changes
  rcases exec_cases h with ⟨b, _, rfl⟩ | rfl | rfl | ⟨rise, rfl⟩
  · exact along (pinReset_keeps (s.wired b)).runs (wired s b law)
  · exact along (resetAsserted_keeps s).runs law
  · exact law
  · obtain ⟨f, g, changes, _⟩ := finish_changes (effect c s)
    have after : L (effect c s) := along (p := (s.flight, s)) (effect_keeps rise s).runs law
    exact along changes after

/-- A law of the state alone that no change ends, whatever the queue holds, is one that no step ends. -/
theorem step_keeps_law {L : State → Prop} (keeps : ∀ p q : Flight × State, Change p q → L p.2 → L q.2)
    (wired : ∀ s b, L s → L (s.wired b)) (queue : ∀ (s : State) (q : List Instr), L s → L { s with pending := q }) {s t : State} (h : step s = .next t) : L s → L t :=
  step_keeps queue (fun _ _ _ run => command_keeps keeps wired run) h

theorem step_keeps_flight {L : Flight × State → Prop} (keeps : ∀ p q, Change p q → L p → L q)
    (wired : ∀ f s b, L (f, s) → L (f, s.wired b))
    (queue : ∀ (f : Flight) (s : State) (q : List Instr), L (f, s) → L (f, { s with pending := q })) {s t : State}
    (h : step s = .next t) : s.RecordLaw ∧ L (s.flight, s) → t.RecordLaw ∧ L (t.flight, t) :=
  step_keeps (P := fun s => s.RecordLaw ∧ L (s.flight, s)) (fun s q law => ⟨law.1, queue _ s q law.2⟩)
    (fun _ _ _ run law => command_keeps_flight keeps wired run law.1 law.2) h

/-! ## The law of the line over the look -/

/-- A look at a line that runs, with the engine in IDLE, does not end the law of the line. -/
theorem Looks.lineLaw {s t : State} (h : Looks s t) (idle : s.engine.state = .idle) (running : s.line.state = .running)
    (law : s.LineLaw) : t.LineLaw := by
  rcases h with idles | ⟨x, u, before, after⟩
  · exact (Moves.apart idles).alike.law law
  · have silent := (lineLaw_silent law (ne_of_eq_of_ne idle nofun) (ne_of_eq_of_ne idle nofun)).of_alike before.apart.alike
    have live : Live u := .inl (before.apart.alike.state.trans running)
    refine after.apart.alike.law (lineLaw_waiting (r := { exch := x }) rfl live ⟨silent.tx, silent.guard, silent.driver⟩ rfl (.inl rfl))

theorem finish_lineLaw {s : State} (law : s.LineLaw) : (finish s).LineLaw := by
  rcases finish_cases s with ⟨_, eq⟩ | ⟨_, _, eq⟩ | ⟨_, free, eq⟩ <;> rw [eq]
  · exact law
  · exact law
  · obtain ⟨idle, running⟩ := Bool.and_eq_true_iff.1 free
    exact (look_looks _).lineLaw (eq_of_beq idle) (eq_of_beq running) law

theorem command_keeps_line {c : Instr} {s t : State} (h : exec c s = .next t) (law : s.LineLaw) : t.LineLaw := by
  rcases exec_cases h with ⟨b, _, rfl⟩ | rfl | rfl | ⟨rise, rfl⟩
  · exact (pinReset_keeps (s.wired b)).line law
  · exact (resetAsserted_keeps s).line law
  · exact law
  · exact finish_lineLaw ((effect_keeps rise s).line law)

/-! ## The laws -/

/-- Settles O54: none of the changes ends a law of the table or the pool. -/
theorem stepsKeepTheTable : Obligations.StepsKeepTheTable := fun _ _ h =>
  ⟨step_keeps_law (fun _ _ => Change.keeps_address) (fun _ _ => id) (fun _ _ => id) h,
    step_keeps_law (fun _ _ => Change.keeps_online) (fun _ _ => id) (fun _ _ => id) h,
    step_keeps_law (fun _ _ => Change.keeps_pool) (fun _ _ => id) (fun _ _ => id) h⟩

/-- Settles O55: the laws as laws of the state and its flight, which none of the changes ends. -/
theorem stepsKeepTheTarget : Obligations.StepsKeepTheTarget := by
  intro s t h
  constructor
  · rw [targetLaw_iff, targetLaw_iff]
    exact step_keeps_flight (L := fun p => TableFor p.1.target p.2) (fun _ _ => Change.keeps_target) (fun _ _ _ => id) (fun _ _ _ => id) h
  · unfold State.ReservationLaw
    rw [replyBuffer_eq, replyBuffer_eq]
    exact step_keeps_flight (L := fun p => p.2.pool.reserved = p.1.reply) (fun _ _ => Change.keeps_reservation) (fun _ _ _ => id) (fun _ _ _ => id) h

/-- Settles O56: the laws of the messages with those they rest on, as one law of the state and its flight. -/
theorem stepsKeepTheMessages : Obligations.StepsKeepTheMessages := by
  intro s t h
  rw [lawfulFor_iff, lawfulFor_iff]
  exact step_keeps_flight (L := fun p => LawfulFor p.1 p.2) (fun _ _ => Change.keeps_lawful)
    (fun _ _ _ law => { law with messages := { law.messages with } }) (fun _ _ _ law => { law with messages := { law.messages with } }) h

/-- Settles O57: none of the changes ends a law of the scheduler. -/
theorem stepsKeepTheScheduler : Obligations.StepsKeepTheScheduler := fun _ _ h =>
  ⟨step_keeps_law (fun _ _ => Change.keeps_urgent) (fun _ _ => id) (fun _ _ => id) h,
    step_keeps_law (fun _ _ => Change.keeps_scheduler) (fun _ _ => id) (fun _ _ => id) h⟩

/-- Settles O58: the law of the sweep as a law of the state and its flight. -/
theorem stepsKeepTheSweep : Obligations.StepsKeepTheSweep := by
  intro s t h
  rw [sweepLaw_iff, sweepLaw_iff]
  exact step_keeps_flight (L := fun p => p.2.sweep.Lawful p.1.probed ∧ Stations p.2) (fun _ _ => Change.keeps_sweep) (fun _ _ _ => id) (fun _ _ _ => id) h

/-- Settles O59: every effect and every look keeps the law of the line. -/
theorem stepsKeepTheLine : Obligations.StepsKeepTheLine := fun _ _ h =>
  step_keeps (fun _ _ => id) (fun _ _ _ => command_keeps_line) h

end Sys2Proof.Machine

/-! SUPPORT. A look leaves no look owed, and so no look is owed between steps (R75, log 4). -/

namespace Sys2Proof.Machine

theorem startExchange_sched (x : Exchange) (s : State) : (startExchange x s).sched = s.sched := by cases x <;> rfl

theorem dropIneligible_lookDue (l : List EntryIx) (s : State) : (dropIneligible l s).sched.lookDue = s.sched.lookDue := by
  induction l generalizing s with
  | nil => rfl
  | cons i rest ih =>
    unfold dropIneligible
    split
    · rw [ih]
      split <;> rfl
    · rfl

theorem urgentClaim_lookDue (s : State) : (urgentClaim s).2.sched.lookDue = s.sched.lookDue := by
  have dropped := dropIneligible_lookDue s.sched.urgent s
  unfold urgentClaim
  dsimp only
  split
  · exact dropped
  · next i _ _ =>
    split
    · rw [startExchange_sched]
      exact dropped
    · obtain ⟨e, sched⟩ := tryPoll_sched i (backoffStep i (dropIneligible s.sched.urgent s))
      rw [backoffStep_sched] at sched
      split <;> rename_i tried <;> rw [tried] at sched <;> rw [← dropped]
      · exact (congrArg Scheduler.lookDue sched :)
      · exact (congrArg Scheduler.lookDue sched :)
    · exact dropped

theorem sweepChoice_sched (s : State) : (sweepChoice s).2.sched = s.sched := by
  unfold sweepChoice sweepComplete withSweep
  dsimp only
  split <;> simp

theorem sweepClaim_lookDue (s : State) : (sweepClaim s).2.sched.lookDue = s.sched.lookDue := by
  have chosen := sweepChoice_sched s
  unfold sweepClaim
  split
  · split <;> rename_i asked <;> rw [asked] at chosen
    · rw [startExchange_sched]
      exact (congrArg Scheduler.lookDue chosen :)
    · exact (congrArg Scheduler.lookDue chosen :)
  · rfl

theorem returnToSweep_lookDue (s : State) : (returnToSweep s).2.sched.lookDue = s.sched.lookDue := by
  have claimed := sweepClaim_lookDue s
  unfold returnToSweep
  split <;> rename_i asked <;> rw [asked] at claimed <;> exact claimed

theorem endRun_lookDue (s : State) : (endRun s).sched.lookDue = s.sched.lookDue := by
  unfold endRun
  (repeat' split) <;> rfl

theorem walkMove_lookDue (s : State) : (walkMove s).2.sched.lookDue = s.sched.lookDue := by
  unfold walkMove
  split
  · exact returnToSweep_lookDue _
  · split
    · rfl
    · obtain ⟨e, t, sched⟩ := visited_sched s
      obtain ⟨p, c, k, advanced⟩ := advanceSlot_sched (visit s).2
      have after : (advanceSlot (visit s).2).2.sched.lookDue = s.sched.lookDue := by
        rw [advanced, visit_eq]
        exact (congrArg Scheduler.lookDue sched :)
      dsimp only
      split
      · exact after
      · split
        · exact (returnToSweep_lookDue _).trans ((endRun_lookDue _).trans after)
        · exact (endRun_lookDue _).trans after

theorem walk_lookDue (n : Nat) (s : State) : (walk n s).sched.lookDue = s.sched.lookDue := by
  induction n generalizing s with
  | zero => rfl
  | succ n ih =>
    have moved := walkMove_lookDue s
    unfold walk
    split
    · split <;> rename_i went <;> rw [went] at moved
      · exact moved
      · exact (ih _).trans moved
    · rfl

theorem look_lookDue (s : State) : (look s).sched.lookDue = s.sched.lookDue := by
  unfold look
  split
  · exact congrArg Scheduler.lookDue (startExchange_sched _ s)
  · have urgent := urgentClaim_lookDue s
    split <;> rename_i t claimed <;> rw [claimed] at urgent
    · exact urgent
    · have swept := sweepClaim_lookDue t
      split <;> rename_i offered <;> rw [offered] at swept
      · exact swept.trans urgent
      · exact (walk_lookDue _ _).trans (swept.trans urgent)

/-- The end of a step makes the look that is owed, or forgets it. -/
theorem finish_lookLaw (s : State) : (finish s).LookLaw := by
  rcases finish_cases s with ⟨clear, eq⟩ | ⟨_, _, eq⟩ | ⟨_, _, eq⟩ <;> rw [eq]
  · exact clear
  · exact (look_lookDue _).trans rfl

theorem command_keeps_look {c : Instr} {s t : State} (h : exec c s = .next t) (law : s.LookLaw) : t.LookLaw := by
  rcases exec_cases h with ⟨b, _, rfl⟩ | rfl | rfl | ⟨_, rfl⟩
  · rfl
  · exact law
  · exact law
  · exact finish_lookLaw _

/-! ## Commands complete (O2) -/

/-- Nothing but the rise of RESET# changes the bus width, and no command touches the queue or turns the clock back. -/
theorem command_forward {c : Instr} {s t : State} (h : exec c s = .next t) :
    t.pending = s.pending ∧ s.now ≤ t.now ∧ ((∀ b, c ≠ .pinReset b) → t.port.wide = s.port.wide) := by
  have forward : ∀ p q : Flight × State, Change p q → p.2.pending = s.pending ∧ s.now ≤ p.2.now ∧ p.2.port.wide = s.port.wide →
      q.2.pending = s.pending ∧ s.now ≤ q.2.now ∧ q.2.port.wide = s.port.wide := by
    rintro p q change ⟨pending, now, wide⟩
    obtain ⟨pending', now', wide'⟩ := Change.forward change
    exact ⟨pending'.trans pending, now.trans now', wide'.trans wide⟩
  rcases exec_cases h with ⟨b, risen, rfl⟩ | rfl | rfl | ⟨rise, rfl⟩
  · exact ⟨rfl, Nat.le_of_eq rfl, fun rise => absurd risen (rise b)⟩
  · exact ⟨rfl, Nat.le_of_eq rfl, fun _ => rfl⟩
  · exact ⟨rfl, Nat.le_of_eq rfl, fun _ => rfl⟩
  · have run := Changes.keeps (L := fun p => _) forward (effect_keeps rise s).runs ⟨rfl, Nat.le_refl _, rfl⟩
    obtain ⟨f, g, changes, _⟩ := finish_changes (effect c s)
    obtain ⟨pending, now, wide⟩ := Changes.keeps (L := fun p => _) forward changes run
    exact ⟨pending, now, fun _ => wide⟩

theorem exec_completes (c : Instr) (s : State) : ∃ t, exec c s = .next t := by
  by_cases rise : ∃ b, c = .pinReset b
  · obtain ⟨b, rfl⟩ := rise
    exact ⟨_, exec_pinReset b s⟩
  · by_cases fall : c = .resetAsserted
    · exact fall ▸ ⟨_, exec_resetAsserted s⟩
    · exact ⟨_, exec_eq_act c s (fun b eq => rise ⟨b, eq⟩) fall⟩

/-- Settles O2: every command answers a state, and no change touches the queue, turns the clock back, or changes the width. -/
theorem everyCommandCompletes : Obligations.EveryCommandCompletes := by
  intro c s
  obtain ⟨t, run⟩ := exec_completes c s
  exact ⟨t, run, command_forward run⟩

/-- Settles O60: no change ends a law of the ranges, the counters, the queue or the latch, and every step ends by the look that it owes. -/
theorem stepsKeepTheRecords : Obligations.StepsKeepTheRecords := fun _ _ h =>
  ⟨step_keeps_law (fun _ _ => Change.keeps_range) (fun _ _ => id) (fun _ _ => id) h,
    step_keeps_law (fun _ _ => Change.keeps_counters) (fun _ _ => id) (fun _ _ => id) h,
    step_keeps_law (fun _ _ => Change.keeps_events) (fun _ _ => id) (fun _ _ => id) h,
    step_keeps_law (fun _ _ => Change.keeps_latch) (fun _ _ => id) (fun _ _ => id) h,
    step_keeps (fun _ _ => id) (fun _ _ _ => command_keeps_look) h⟩

end Sys2Proof.Machine

/-! SUPPORT. RESET# and the resets: what they leave, and the statements about them. -/

namespace Sys2Proof.Machine

/-- The part held in reset drives nothing, whatever the level of TXD had been (R197). -/
theorem txdAt_silent {s : State} (h : s.framer.tx = none) (k : Nat) : txdAt s k = true := by simp only [txdAt, h]

/-- Settles O3: by the equation of the fall, and by `act` for the commands that come while the part is held in reset. -/
theorem heldInReset : Obligations.HeldInReset :=
  ⟨fun s => ⟨resetAsserted s, rfl, rfl, txdAt_silent rfl, rfl, rfl, rfl, rfl, rfl⟩,
    fun c s held rise fall => (exec_eq_act c s rise fall).trans (congrArg Host.Outcome.next (act_held held))⟩

/-- The registers do not show the model's clock or the queue of commands. -/
theorem registerValue_pinReset (b : Bool) (addr : BitVec 6) (s : State) :
    registerValue addr (pinReset b s) = registerValue addr (State.powerOn b) := rfl

theorem powerOn_registers (b : Bool) : ∀ r ∈ powerOnMap, registerValue r.1 (State.powerOn b) = r.2 := by
  have all : powerOnMap.all (fun r => registerValue r.1 (State.powerOn b) == r.2) = true := by decide +kernel +revert
  exact fun r listed => eq_of_beq (List.all_eq_true.1 all r listed)

/-- Settles O4: the next state is `pinReset`'s, whose registers are those of `State.powerOn`. -/
theorem pinResetValues : Obligations.PinResetValues := fun b s =>
  ⟨rfl, fun r listed => (registerValue_pinReset b r.1 s).trans (powerOn_registers b r listed), irqAsserted_masked rfl,
    txdAt_silent rfl, allFree_held⟩

theorem reset_table (i : EntryIx) : State.reset.table[i] = Entry.vacant := by simp [State.reset, State.powerOn]

theorem reset_outbound (i : EntryIx) : State.reset.pool.outbound[i] = [] := by simp [State.reset, State.powerOn, Pool.allFree]

/-- No entry is in a state other than EMPTY right after reset (R197). -/
theorem reset_vacant {i : EntryIx} {p : Prop} (occupied : State.reset.table[i].state ≠ .empty) : p := by
  rw [reset_table] at occupied
  exact absurd rfl occupied

/-- No message stands on an entry's list right after reset (R197). -/
theorem reset_unlisted {i : EntryIx} {b : BufIx} {p : Prop} (listed : b ∈ State.reset.pool.outbound[i]) : p := by
  rw [reset_outbound] at listed
  exact nomatch listed

/-- Settles O7: the table is vacant, every list is empty and nothing is in flight; the laws of single registers are evaluated. -/
theorem resetMeetsTheLaws : Obligations.ResetMeetsTheLaws := by
  have none' : State.reset.RecordLaw := ⟨fun _ => rfl, fun _ => rfl⟩
  refine ⟨?pool, fun i j occupied => reset_vacant occupied, fun i online => reset_vacant (ne_of_eq_of_ne online (by decide)),
    ⟨fun i => ?counters, by decide⟩,
    ⟨none', fun i => ?flags, nofun, fun i retiring => ?retiring, fun i _ => ⟨reset_table i, reset_outbound i⟩⟩, ⟨none', rfl⟩, ⟨fun i => ?lists, by decide, nofun⟩, ⟨fun i b listed => reset_unlisted listed, nofun⟩, ⟨nofun, nofun⟩,
    ⟨.nil, by decide, fun i => ?listed, nofun⟩, by decide,
    ⟨none', by decide, nofun, nofun, nofun, fun i occupied => reset_vacant occupied⟩, by decide, by decide, by decide, by decide, rfl⟩
  case pool =>
    have unheld : State.reset.pool.held = [] := allFree_held
    rw [State.PoolLaw, unheld]
    exact .nil
  case retiring => exact reset_vacant (ne_of_eq_of_ne retiring (by decide))
  case lists =>
    rw [reset_outbound]
    exact ⟨by decide, nofun⟩
  case counters =>
    rw [reset_table]
    decide
  all_goals
    rw [reset_table]
    exact ⟨nofun, nofun⟩

/-! ## LINE_RESET (R168) -/

theorem lineResetEntry_gone {e : Entry} (sent : Bool) (h : e.state = .empty ∨ e.state = .retiring) : lineResetEntry sent e = {} := by
  rcases h with h | h <;> simp only [lineResetEntry, h] <;> rfl

theorem lineResetEntry_stays {e : Entry} (sent : Bool) (occupied : e.state ≠ .empty) (staying : e.state ≠ .retiring) :
    lineResetEntry sent e = { e with
      state := if e.state = .parked then .parked else .new
      miss := 0
      backoff := 0
      goodCount := 0
      failCount := 0
      dupCount := 0
      inFlight := false
      urgentListed := false
      nextNum := if sent then e.nextNum + 1#3 else e.nextNum } := by
  unfold lineResetEntry
  split
  · next empty => exact absurd empty occupied
  · next retiring => exact absurd retiring staying
  · rfl

/-- The delivery number as LINE_RESET leaves it, by the head of the list (R46). -/
theorem headSent_number (bs : List BufIx) (s : State) (n : BitVec 3) : (if headSent bs s then n + 1#3 else n) =
    match bs with
    | [] => n
    | b :: _ => if s.pool.buffers[b].transmitted then n + 1#3 else n := by
  cases bs <;> rfl

theorem exec_lineReset_eq {s : State} (live : s.port.inReset = false) :
    exec .lineReset s = .next ((lineReset s).answered 0x53#8 .ok 0) := by
  have settled : ((lineReset s).answered 0x53#8 .ok 0).sched.lookDue = false := by simp only [State.answered, lineReset]; rfl
  have answers : cmdLineReset s = { res := .ok, val := 0, st := lineReset s } := rfl
  exact congrArg Host.Outcome.next ((act_command_eq live answers).trans (finish_settled settled))

/-- Settles O6: by `lineReset`, entry by entry and block by block. -/
theorem lineResetValues : Obligations.LineResetValues := by
  intro s live
  refine ⟨_, exec_lineReset_eq live, fun i gone => ?_, fun i occupied staying => ?_, ?_, ?_, ?_, ?_, ?_, ?_, ?_, ?_, ?_, ?_, ?_, ?_⟩
  · exact (lineReset_entry s i).trans (lineResetEntry_gone _ gone)
  · refine ((lineReset_entry s i).trans (lineResetEntry_stays _ occupied staying)).trans ?_
    rw [headSent_number] <;> rfl
  · exact allFree_held
  · exact headSent_number _ s _
  all_goals simp only [State.answered, lineReset] <;> rfl

end Sys2Proof.Machine

/-! SUPPORT. Commands refused (R190): an answer that is a refusal carries the state as it was. -/

namespace Sys2Proof.Machine

/-- A refusal among the answers of a command carries the state as it was. -/
def Answer.Declines (a : Answer) (s : State) : Prop := a.res.refuses = true → a.st = s

theorem refuse_declines (r : Res) (s : State) : (refuse r s).Declines s := fun _ => rfl

theorem same_declines {a : Answer} {s : State} (h : a.st = s) : a.Declines s := fun _ => h

theorem taken_declines {a : Answer} {s : State} (h : a.res.refuses = false) : a.Declines s :=
  fun refused => absurd refused (Bool.eq_false_iff.1 h)

section
variable (s : State)

theorem cmdAdd_declines : (cmdAdd s).Declines s := by
  unfold cmdAdd
  dsimp only
  split
  · exact refuse_declines _ s
  · split
    · exact refuse_declines _ s
    · split
      · exact refuse_declines _ s
      · split
        · exact refuse_declines _ s
        · exact taken_declines rfl

theorem cmdRemove_declines : (cmdRemove s).Declines s := by
  unfold cmdRemove
  split
  · exact refuse_declines _ s
  · split
    · exact refuse_declines _ s
    · split
      · exact refuse_declines _ s
      · split
        · exact taken_declines rfl
        · exact taken_declines rfl

theorem cmdPark_declines : (cmdPark s).Declines s := by
  unfold cmdPark
  split
  · exact refuse_declines _ s
  · split
    · exact refuse_declines _ s
    · split
      · exact refuse_declines _ s
      · exact taken_declines rfl

theorem cmdResume_declines : (cmdResume s).Declines s := by
  unfold cmdResume
  split
  · exact refuse_declines _ s
  · split
    · exact refuse_declines _ s
    · split
      · exact taken_declines rfl
      · exact refuse_declines _ s

theorem cmdUrgent_declines : (cmdUrgent s).Declines s := by
  unfold cmdUrgent
  split
  · exact refuse_declines _ s
  · split
    · exact refuse_declines _ s
    · split
      · exact refuse_declines _ s
      · split
        · exact taken_declines rfl
        · split
          · exact refuse_declines _ s
          · exact taken_declines rfl

theorem cmdClearCounters_declines : (cmdClearCounters s).Declines s := by
  unfold cmdClearCounters
  split
  · exact taken_declines rfl
  · split
    · exact refuse_declines _ s
    · split
      · exact refuse_declines _ s
      · split
        · exact refuse_declines _ s
        · exact taken_declines rfl

theorem cmdStageOpen_declines : (cmdStageOpen s).Declines s := by
  unfold cmdStageOpen
  split
  · exact refuse_declines _ s
  · split
    · exact refuse_declines _ s
    · split
      · exact refuse_declines _ s
      · exact taken_declines rfl

theorem cmdStageCommit_declines : (cmdStageCommit s).Declines s := by
  unfold cmdStageCommit
  split
  · exact refuse_declines _ s
  · split
    · exact refuse_declines _ s
    · split
      · split
        · exact refuse_declines _ s
        · exact taken_declines rfl
      · split
        · exact refuse_declines _ s
        · split
          · exact refuse_declines _ s
          · split
            · exact refuse_declines _ s
            · exact taken_declines rfl

theorem cmdStageDiscard_declines : (cmdStageDiscard s).Declines s := by
  unfold cmdStageDiscard
  split
  · exact refuse_declines _ s
  · exact taken_declines rfl

theorem cancelFound_declines (i : EntryIx) (b : BufIx) : (cancelFound i b s).Declines s := by
  unfold cancelFound
  split <;> exact taken_declines rfl

theorem cancelBroadcast_declines (b : BufIx) : (cancelBroadcast b s).Declines s := by
  unfold cancelBroadcast
  split <;> exact taken_declines rfl

theorem cmdCancel_declines : (cmdCancel s).Declines s := by
  unfold cmdCancel
  split
  · exact refuse_declines _ s
  · split
    · split
      · exact refuse_declines _ s
      · exact cancelBroadcast_declines s _
    · split
      · exact refuse_declines _ s
      · split
        · exact refuse_declines _ s
        · exact cancelFound_declines s _ _

theorem cmdRxOpen_declines : (cmdRxOpen s).Declines s := by
  unfold cmdRxOpen
  split
  · exact refuse_declines _ s
  · split
    · exact refuse_declines _ s
    · exact taken_declines rfl

theorem cmdRxRelease_declines : (cmdRxRelease s).Declines s := by
  unfold cmdRxRelease
  split
  · exact refuse_declines _ s
  · exact taken_declines rfl

theorem cmdSweepStart_declines : (cmdSweepStart s).Declines s := by
  unfold cmdSweepStart
  dsimp only
  split
  · exact same_declines rfl
  · split
    · exact same_declines rfl
    · exact taken_declines rfl

theorem cmdSweepStop_declines : (cmdSweepStop s).Declines s := by
  unfold cmdSweepStop
  split
  · exact same_declines rfl
  · split <;> exact taken_declines rfl
  · exact taken_declines rfl

theorem cmdLineStart_declines : (cmdLineStart s).Declines s := by
  unfold cmdLineStart
  split <;> exact taken_declines rfl

theorem cmdLineHalt_declines : (cmdLineHalt s).Declines s := by
  unfold cmdLineHalt
  split
  · split <;> exact taken_declines rfl
  · exact taken_declines rfl
  · exact taken_declines rfl
  · exact taken_declines rfl

end

/-- The answer of a command stands in the port after the look. -/
theorem finish_port (s : State) : (finish s).port = s.port := (finish_kept s).1

/-- A command that declines changes the answer only, no look being owed. -/
theorem command_declined {code : Byte} {f : State → Answer} {s t : State} (live : s.port.inReset = false) (law : s.LookLaw)
    (declines : (f s).Declines s) (run : act (command code f) s = t) (refused : t.port.cres.refuses = true) :
    t = { s with port := { s.port with cmd := t.port.cmd, cres := t.port.cres, cval := t.port.cval, dataLines := none } } := by
  have ended : t = finish ((f s).st.answered code (f s).res (f s).val) := run.symm.trans (act_command_eq live rfl)
  have answer : t.port.cres = (f s).res := by rw [ended, finish_port]; rfl
  have settled : (s.answered code (f s).res (f s).val).LookLaw := law
  rw [declines (answer ▸ refused), finish_settled settled] at ended
  rw [ended]
  rfl

/-- Settles O8: each command in the list answers a refusal with the state as it was, and no look follows it. -/
theorem refusedCommandChangesNothing : Obligations.RefusedCommandChangesNothing := by
  intro c s t live law listed run refused
  have declined {code : Byte} {f : State → Answer} (declines : (f s).Declines s)
      (same : exec c s = .next (act (command code f) s)) :
      t = { s with port := { s.port with cmd := t.port.cmd, cres := t.port.cres, cval := t.port.cval, dataLines := none } } :=
    command_declined live law declines (Host.Outcome.next.inj (same.symm.trans run)) refused
  simp only [List.mem_cons, List.not_mem_nil, or_false] at listed
  rcases listed with rfl | rfl | rfl | rfl | rfl | rfl | rfl | rfl | rfl | rfl | rfl | rfl | rfl | rfl | rfl | rfl | rfl | rfl
  · exact declined (cmdAdd_declines s) rfl
  · exact declined (cmdRemove_declines s) rfl
  · exact declined (cmdPark_declines s) rfl
  · exact declined (cmdResume_declines s) rfl
  · exact declined (cmdUrgent_declines s) rfl
  · exact declined (cmdClearCounters_declines s) rfl
  · exact declined (cmdStageOpen_declines s) rfl
  · exact declined (cmdStageCommit_declines s) rfl
  · exact declined (cmdStageDiscard_declines s) rfl
  · exact declined (cmdCancel_declines s) rfl
  · exact declined (cmdRxOpen_declines s) rfl
  · exact declined (cmdRxRelease_declines s) rfl
  · exact declined (cmdSweepStart_declines s) rfl
  · exact declined (cmdSweepStop_declines s) rfl
  · exact declined (cmdLineStart_declines s) rfl
  · exact declined (cmdLineHalt_declines s) rfl
  · exact declined (f := cmdLineReset) (taken_declines rfl) rfl
  · exact declined (f := cmdDeviceReset) (taken_declines rfl) rfl

/-! ## A code outside the command table (R190) -/

/-- A code that is not listed has no arm of its own. -/
theorem writeCmd_unlisted {code : Byte} (h : code ∉ commandCodes) : writeCmd code =
    command code (fun t => { res := .unknownCommand, val := 0, st := hostError .unknownCommand t }) := by
  funext s
  have other (n : Nat) (small : n < 256) (listed : BitVec.ofNat 8 n ∈ commandCodes) (same : code.toNat = n) : False :=
    h ((BitVec.eq_of_toNat_eq (by rw [same, BitVec.toNat_ofNat, Nat.mod_eq_of_lt small]) : code = BitVec.ofNat 8 n) ▸ listed)
  unfold writeCmd
  split
  case h_20 => rfl
  all_goals next same => exact (other _ (by decide) (by decide) same).elim

/-- Settles O9: the code is not listed, so the host error is latched behind the answer UNKNOWN_COMMAND. -/
theorem unknownCommandRule : Obligations.UnknownCommandRule := by
  intro code s live wf
  have unlisted : code ∉ commandCodes := by simpa [Instr.wellFormed] using wf
  have run : exec (.unknownCommand code) s =
      .next (finish ((hostError .unknownCommand s).answered code .unknownCommand 0)) :=
    calc exec (.unknownCommand code) s
      _ = .next (act (writeCmd code) s) := rfl
      _ = _ := by rw [writeCmd_unlisted unlisted]; exact congrArg Host.Outcome.next (act_command_eq live rfl)
  refine ⟨run, fun t ran => ?_⟩
  obtain rfl := Host.Outcome.next.inj (run.symm.trans ran)
  refine ⟨by rw [finish_port]; rfl, ?_⟩
  change (finish ((hostError .unknownCommand s).answered code .unknownCommand 0)).port.cmd = code
  rw [finish_port]
  rfl

end Sys2Proof.Machine

/-! SUPPORT. Commands of the table, of cancellation and of the line: the equations of their effects, and the proofs of their
statements. -/

namespace Sys2Proof.Machine

/-- A command that the part takes: its effect, the answer in the port, and the look (R189). -/
theorem exec_command {code : Byte} {f : State → Answer} {s : State} {r : Res} {v : Nat} {t : State}
    (live : s.port.inReset = false) (h : f s = { res := r, val := v, st := t }) :
    (.next (act (command code f) s) : Host.Outcome State Fault Refusal) = .next (finish (t.answered code r v)) :=
  congrArg Host.Outcome.next (act_command_eq live h)

/-! ## PARK and RESUME (R42, R43) -/

theorem cmdPark_badIndex {s : State} (h : 31 < s.port.carg0.toNat) : cmdPark s = refuse .badEntry s := by
  simp only [cmdPark, entryArg_none h]

theorem cmdResume_badIndex {s : State} (h : 31 < s.port.carg0.toNat) : cmdResume s = refuse .badEntry s := by
  simp only [cmdResume, entryArg_none h]

section
variable {s : State} {i : EntryIx} (arg : s.port.carg0.toNat = i.val)
include arg

theorem cmdPark_one : cmdPark s =
    if s.table[i].state = .empty then refuse .badEntry s
    else if s.table[i].state = .parked ∨ s.table[i].state = .retiring then refuse .wrongState s
    else { res := .ok, val := 0, st := dropUrgent i (modEntry i (fun e => { e with state := .parked }) s) } := by
  simp only [cmdPark, entryArg_eq arg]

theorem cmdResume_one : cmdResume s =
    if s.table[i].state = .empty then refuse .badEntry s
    else if s.table[i].state = .parked then
      { res := .ok, val := 0, st := wake (modEntry i (fun e => { e with state := .new, miss := 0, backoff := 0 }) s) }
    else refuse .wrongState s := by
  simp only [cmdResume, entryArg_eq arg]

end

/-- Settles O13: the equations of both effects for an index above 31 and for each state of the entry. -/
theorem parkAndResumeRule : Obligations.ParkAndResumeRule := by
  intro s live
  refine ⟨fun h => ⟨exec_command live (cmdPark_badIndex h), exec_command live (cmdResume_badIndex h)⟩, fun i arg => ?_⟩
  have park := cmdPark_one arg
  have resume := cmdResume_one arg
  refine ⟨fun empty => ⟨exec_command live (park.trans (if_pos empty)), exec_command live (resume.trans (if_pos empty))⟩,
    fun still => exec_command live (park.trans ?_), fun occupied unparked => exec_command live (resume.trans ?_),
    fun polled => exec_command live (park.trans ?_), fun parked => exec_command live (resume.trans ?_)⟩
  · have occupied : s.table[i].state ≠ .empty := by rcases still with h | h <;> exact ne_of_eq_of_ne h (by decide)
    rw [if_neg occupied, if_pos still]
    rfl
  · rw [if_neg occupied, if_neg unparked]
    rfl
  · have served : s.table[i].state ≠ .empty ∧ ¬(s.table[i].state = .parked ∨ s.table[i].state = .retiring) := by
      rcases polled with h | h | h | h <;> rw [h] <;> decide
    rw [if_neg served.1, if_neg served.2, dropUrgent_modEntry]
  · rw [if_neg (ne_of_eq_of_ne parked (by decide)), if_pos parked]
    rfl

/-! ## LINE_START, LINE_HALT and LINE_ABORT (R154, R155, R157) -/

/-- Settles O24: both effects by the line state. -/
theorem lineStartAndHaltRule : Obligations.LineStartAndHaltRule := by
  refine ⟨fun s live => ⟨fun still => ?_, fun h => exec_command live ?_, fun h => exec_command live ?_⟩,
    fun s live => ⟨fun h idle => exec_command live ?_, fun h busy => exec_command live ?_, fun h => exec_command live ?_,
      fun h => exec_command live ?_, fun h => exec_command live ?_⟩⟩
  · rcases still with h | h <;> exact exec_command (f := cmdLineStart) live (by simp only [cmdLineStart, h]; rfl)
  · simp only [cmdLineStart, h, lineAnswer, wake_line]
    rfl
  · simp only [cmdLineStart, h]
    rfl
  · simp only [cmdLineHalt, h, if_pos idle, lineAnswer, post_line]
    rfl
  · simp only [cmdLineHalt, h, if_neg busy]
    rfl
  all_goals simp only [cmdLineHalt, h, lineAnswer] <;> rfl

/-- Settles O25: the abort by the line state, the abandonment being nothing without an exchange. -/
theorem lineAbortRule : Obligations.LineAbortRule := by
  intro rxdHigh s live
  refine ⟨fun runs => ⟨?_, abandon_none⟩, fun h => exec_command live ?_, fun h => exec_command live ?_⟩
  · have answers : cmdLineAbort rxdHigh s = { res := .ok, val := 0, st := abortLine rxdHigh s } := by
      rcases runs with h | h <;> simp only [cmdLineAbort, h, lineAnswer, abortLine, post_line] <;> rfl
    exact exec_command live answers
  all_goals simp only [cmdLineAbort, h, lineAnswer] <;> rfl

/-! ## REMOVE with an exchange in flight (R39, R70) -/

/-- The messages that a filter takes, each at every place it stands, leave those that it does not take. -/
theorem diff_filter {α : Type} [BEq α] [LawfulBEq α] (p : α → Bool) (l : List α) : l.diff (l.filter p) = l.filter fun a => !p a := by
  induction l with
  | nil => rfl
  | cons a rest ih =>
    cases taken : p a
    · have absent : a ∉ rest.filter p := fun listed => Bool.false_ne_true (taken.symm.trans (List.mem_filter.1 listed).2)
      rw [List.filter_cons_of_neg (Bool.eq_false_iff.1 taken), List.filter_cons_of_pos (by rw [taken]; rfl),
        List.cons_diff_of_not_mem absent, ih]
    · rw [List.filter_cons_of_pos taken, List.filter_cons_of_neg (by rw [taken]; decide), List.cons_diff, if_pos List.mem_cons_self,
        List.erase_cons_head, ih]

/-- The state that a REMOVE with an exchange in flight leaves before its records and its withdrawal notice (R39). -/
def removeLeft (i : EntryIx) (s : State) : State :=
  let queued := s.pool.outbound[i].filter fun b : BufIx => s.pool.buffers[b].mark == .queued
  let freed := if queued = [] then s else bufferFreed s
  { freed with
    table := s.table.set i { s.table[i] with
      state := .retiring
      urgentListed := false
      nextNum := s.table[i].nextNum +
        BitVec.ofNat 3 (queued.countP fun b : BufIx => s.pool.buffers[b].transmitted) }
    pool := { s.pool with
      outbound := s.pool.outbound.set i (s.pool.outbound[i].filter fun b : BufIx => s.pool.buffers[b].mark != Mark.queued) }
    sched := { freed.sched with urgent := s.sched.urgent.filter fun j => j != i } }

/-- The buffers of the messages that left return in one step. -/
theorem freed_if_eq (bs : List BufIx) (s : State) : (if bs = [] then s else bufferFreed s) = { s with sched := freedBy bs s.sched } := by
  rw [bufferFreed_eq, freedBy]
  split <;> rfl

theorem freedBy_urgent (bs : List BufIx) (q : Scheduler) : (freedBy bs q).urgent = q.urgent := by
  unfold freedBy
  split
  · rfl
  · exact freed_urgent q

theorem removeLeft_eq (i : EntryIx) (s : State) : dropUrgent i (modEntry i (fun e => { e with state := .retiring })
    (departed i (queuedMessages i s) s)) = removeLeft i s := by
  have kept : s.pool.outbound[i].diff (queuedMessages i s) =
      s.pool.outbound[i].filter fun b : BufIx => s.pool.buffers[b].mark != .queued := diff_filter _ _
  rw [dropUrgent_modEntry]
  simp only [departed, kept]
  unfold removeLeft
  dsimp only
  rw [freed_if_eq, ← freedBy_urgent (queuedMessages i s) s.sched]
  simp [Entry.advanced, freedBy, queuedMessages]

theorem cmdRemove_inFlight {s : State} {i : EntryIx} (arg : s.port.carg0.toNat = i.val) (occupied : s.table[i].state ≠ .empty)
    (staying : s.table[i].state ≠ .retiring) (flying : s.table[i].inFlight = true) :
    cmdRemove s = { res := .pending, val := 0, st := removeLater i s } := by
  simp only [cmdRemove, entryArg_eq arg, if_neg occupied, if_neg staying, if_pos flying]

/-- A withdrawal notice while an attempt is under way, or with nothing in flight, has no effect at once (R70). -/
theorem withdrawalNotice_underway {c : Cause} {s : State} (wait : s.engine.state ≠ .settleWait) (settle : s.engine.state ≠ .settle) :
    withdrawalNotice c s = s := by
  unfold withdrawalNotice
  split
  · next h => exact absurd h wait
  · next h => exact absurd h settle
  · rfl

/-- Between attempts a withdrawal notice withdraws the exchange at once (R70). -/
theorem withdrawalNotice_between {c : Cause} {s : State} (between : s.engine.state = .settleWait ∨ s.engine.state = .settle) :
    withdrawalNotice c s = endNotice (abandon c true s) := by
  rcases between with h | h <;> simp only [withdrawalNotice, h, withdraw]

/-- What is removed and posted leaves the engine alone. -/
theorem removeLeft_engine (i : EntryIx) (s : State) : (removeLeft i s).engine = s.engine := by
  rw [← removeLeft_eq, dropUrgent_modEntry]
  rfl

/-- REMOVE with an exchange in flight: what it leaves, its records, and its withdrawal notice. -/
theorem removeLater_left (i : EntryIx) (s : State) : removeLater i s = withdrawalNotice .retire ((removeLeft i s).posting
    ((s.pool.outbound[i].filter fun b : BufIx => s.pool.buffers[b].mark == .queued).map fun b : BufIx =>
      entryEvent .cancelled i s.table[i].address s.pool.buffers[b].msgId 2)) := by
  rw [removeLater_eq, removeLeft_eq]
  rfl

theorem removeLeft_posting_engine (i : EntryIx) (es : List Event) (s : State) : ((removeLeft i s).posting es).engine = s.engine := by
  rw [posting_eq]
  exact removeLeft_engine i s

/-- Settles O12: the state that REMOVE leaves, its records, and a withdrawal notice that has no effect during an attempt. -/
theorem removeInFlight : Obligations.RemoveInFlight := by
  intro s i live arg occupied staying flying wait settle
  refine exec_command live ((cmdRemove_inFlight arg occupied staying flying).trans ?_)
  rw [removeLater_left, withdrawalNotice_underway (by rwa [removeLeft_posting_engine]) (by rwa [removeLeft_posting_engine])]
  rfl

/-! ## CANCEL (R113 to R116) -/

/-- The oldest message with the id is the one found (R113). -/
theorem findMessage_oldest {id : Byte} {older : List BufIx} {b : BufIx} {newer : List BufIx} {s : State}
    (others : ∀ c ∈ older, s.pool.buffers[c].msgId ≠ id) (found : s.pool.buffers[b].msgId = id) :
    findMessage id (older ++ b :: newer) s = some b := by
  have skipped : older.find? (fun c => s.pool.buffers[c].msgId == id) = none := by simpa using others
  rw [findMessage, List.find?_append, skipped, List.find?_cons_of_pos (by exact beq_iff_eq.2 found)]
  rfl

theorem findMessage_absent {id : Byte} {bs : List BufIx} {s : State} (absent : ∀ c ∈ bs, s.pool.buffers[c].msgId ≠ id) :
    findMessage id bs s = none := by
  simpa [findMessage] using absent

/-- The message found stands behind others only, so it leaves the place where it was found. -/
theorem erase_found {id : Byte} {older : List BufIx} {b : BufIx} {newer : List BufIx} {s : State}
    (others : ∀ c ∈ older, s.pool.buffers[c].msgId ≠ id) (found : s.pool.buffers[b].msgId = id) :
    (older ++ b :: newer).erase b = older ++ newer := by
  rw [List.erase_append_right _ fun listed => others b listed found, List.erase_cons_head]

section
variable {s : State} {i : EntryIx} (arg : s.port.carg0.toNat = i.val)
include arg

theorem cmdCancel_entry : cmdCancel s =
    if s.table[i].state = .empty then refuse .badEntry s
    else match findMessage s.port.carg1 s.pool.outbound[i] s with
      | none => refuse .notFound s
      | some b => cancelFound i b s := by
  have allowed : ¬32 < s.port.carg0.toNat := by omega
  simp only [cmdCancel, if_neg allowed, entryArg_eq arg] <;> rfl

variable {older newer : List BufIx} {b : BufIx} (occupied : s.table[i].state ≠ .empty) (list : s.pool.outbound[i] = older ++ b :: newer)
  (others : ∀ c ∈ older, s.pool.buffers[c].msgId ≠ s.port.carg1) (found : s.pool.buffers[b].msgId = s.port.carg1)
include occupied list others found

theorem cmdCancel_found : cmdCancel s = cancelFound i b s := by
  rw [cmdCancel_entry arg, if_neg occupied, list, findMessage_oldest others found]

theorem cmdCancel_inFlight (marked : s.pool.buffers[b].mark = .inFlight) : cmdCancel s =
    { res := .pending, val := 0, st := cancelInFlight i b s } := by
  rw [cmdCancel_found arg occupied list others found]
  simp only [cancelFound, marked]

end

/-- CANCEL of a message in flight: the mark, the memory of a RETIRING target (log 7), and the withdrawal notice. -/
theorem cancelInFlight_eq (i : EntryIx) (b : BufIx) (s : State) : cancelInFlight i b s = withdrawalNotice .cancel { s with
    pool := { s.pool with buffers := s.pool.buffers.set b { s.pool.buffers[b] with mark := .cancelPending } }
    engine := { s.engine with record := s.engine.record.map fun r : InFlight => { r with lateCancel := s.table[i].state == .retiring } } } :=
  rfl

/-- A queued message of an entry leaves with CANCELLED(HOST) (R114). -/
theorem cancelFound_queued {i : EntryIx} {b : BufIx} {s : State} (marked : s.pool.buffers[b].mark = .queued) :
    cancelFound i b s = { res := .ok, val := 0, st := departWith i b .cancelled 1 s } := by
  simp only [cancelFound, marked]

/-- The delivery number as one departure leaves it (R104). -/
theorem advanced_one (e : Entry) (sent : BufIx → Bool) (b : BufIx) :
    e.advanced ([b].countP sent) = { e with nextNum := if sent b then e.nextNum + 1#3 else e.nextNum } := by
  rw [List.countP_singleton]
  split
  · rfl
  · exact advanced_zero e

theorem departWith_one (i : EntryIx) (b : BufIx) (c : EventCode) (detail : Nat) (s : State) : departWith i b c detail s =
    ((bufferFreed { s with
      table := s.table.set i { s.table[i] with
        nextNum := if s.pool.buffers[b].transmitted then s.table[i].nextNum + 1#3 else s.table[i].nextNum }
      pool := { s.pool with outbound := s.pool.outbound.set i (s.pool.outbound[i].erase b) } }).posting
        [entryEvent c i s.table[i].address s.pool.buffers[b].msgId detail]) := by
  rw [departWith_eq i b c (fun _ => detail), departed, advanced_one, bufferFreed_eq, List.diff_cons, List.diff_nil,
    if_neg (List.cons_ne_nil b [])]
  rfl

theorem cmdCancel_broadcast {s : State} (arg : s.port.carg0.toNat = 32) : cmdCancel s =
    match findMessage s.port.carg1 s.pool.broadcast s with
    | none => refuse .notFound s
    | some b => cancelBroadcast b s := by
  have allowed : ¬32 < s.port.carg0.toNat := by omega
  simp only [cmdCancel, if_neg allowed, entryArg_none (show 31 < s.port.carg0.toNat by omega)] <;> rfl

/-- Settles O19: on either list the oldest message with the id is found, and its mark decides. -/
theorem cancelRule : Obligations.CancelRule := by
  refine ⟨fun s live => ⟨fun h => exec_command live (if_pos h), fun i arg => ⟨fun empty => exec_command live ?_,
      fun occupied absent => exec_command live ?_, fun older b newer occupied list others found => ⟨fun marked => exec_command live ?_,
        fun marked => exec_command live ?_, fun marked wait settle => exec_command live ?_⟩⟩⟩,
    fun s live arg => ⟨fun absent => exec_command live ?_, fun older b newer list others found => ⟨fun marked => exec_command live ?_,
      fun marked => exec_command live ?_⟩⟩⟩
  · rw [cmdCancel_entry arg, if_pos empty]
    rfl
  · rw [cmdCancel_entry arg, if_neg occupied, findMessage_absent absent]
    rfl
  · rw [cmdCancel_found arg occupied list others found, cancelFound_queued marked, departWith_one, list, erase_found others found, found]
  · rw [cmdCancel_found arg occupied list others found]
    simp only [cancelFound, marked]
  · rw [cmdCancel_inFlight arg occupied list others found marked, cancelInFlight_eq, withdrawalNotice_underway (by exact wait) (by exact settle)]
  · rw [cmdCancel_broadcast arg, findMessage_absent absent]
    rfl
  · rw [cmdCancel_broadcast arg, list, findMessage_oldest others found]
    simp only [cancelBroadcast, marked, reduceCtorEq, if_false]
  · rw [cmdCancel_broadcast arg, list, findMessage_oldest others found]
    simp only [cancelBroadcast, marked, if_true, departBroadcast, list, erase_found others found, found]
    rfl

/-- Settles O20: the equations of CANCEL and REMOVE, with a withdrawal notice that takes effect at once. -/
theorem withdrawnInSettle : Obligations.WithdrawnInSettle := by
  intro s i live arg occupied between
  refine ⟨fun older b newer list others found marked => exec_command live ?_, fun staying flying =>
    exec_command live ((cmdRemove_inFlight arg occupied staying flying).trans ?_)⟩
  · rw [cmdCancel_inFlight arg occupied list others found marked, cancelInFlight_eq, withdrawalNotice_between (by exact between)]
  · rw [removeLater_left, withdrawalNotice_between (by rwa [removeLeft_posting_engine])]
    rfl

end Sys2Proof.Machine

/-! SUPPORT. The host port: the two data ports, the event pop, and the writes of the registers, with the proofs of their statements. -/

namespace Sys2Proof.Machine

/-! ## Accesses (R184) -/

section
variable {s : State} (live : s.port.inReset = false)
include live

theorem exec_read {f : State → Word × State} {w : Word} {t : State} (h : f s = (w, t)) :
    (.next (act (readAccess f) s) : Host.Outcome State Fault Refusal) = .next (finish (t.driving w)) := by
  rw [act_live live, readAccess, h]
  rfl

theorem exec_write {f : State → State} {t : State} (h : f s = t) :
    (.next (act (writeAccess f) s) : Host.Outcome State Fault Refusal) = .next (finish t.undriven) := by
  rw [act_live live, writeAccess, h]
  rfl

end

/-! ## Bytes and words -/

theorem lowByte_eq (w : Word) : w.extractLsb' 0 8 = lowByte w := by
  simp [lowByte, BitVec.setWidth_eq_extractLsb']

theorem highByte_eq (w : Word) : w.extractLsb' 8 8 = highByte w := rfl

theorem byteWord_eq (b : Byte) : 0#8 ++ b = byteWord b := by
  ext i
  simp [byteWord]
  grind

theorem lowByte_toNat (w : Word) : (lowByte w).toNat = w.toNat % 256 := BitVec.toNat_setWidth 8 w

/-! ## STGDATA (R99) -/

theorem appendByte_room {b : BufIx} {d : Byte} {s : State} (room : s.pool.buffers[b].payload.length < 48) : appendByte b d s =
    (true, { s with
      pool := { s.pool with buffers := s.pool.buffers.set b { s.pool.buffers[b] with payload := s.pool.buffers[b].payload ++ [d] } }
      port := { s.port with stagePtr := s.port.stagePtr + 1 } }) := if_pos room

theorem appendByte_full {b : BufIx} {d : Byte} {s : State} (full : 48 ≤ s.pool.buffers[b].payload.length) :
    appendByte b d s = (false, s) := if_neg (Nat.not_lt.2 full)

/-- The staged message with bytes appended, and the write pointer past them (R99). -/
def stored (b : BufIx) (bytes : List Byte) (s : State) : State := { s with
  pool := { s.pool with buffers := s.pool.buffers.set b { s.pool.buffers[b] with payload := s.pool.buffers[b].payload ++ bytes } }
  port := { s.port with stagePtr := s.port.stagePtr + bytes.length } }

theorem stored_length (b : BufIx) (bytes : List Byte) (s : State) :
    (stored b bytes s).pool.buffers[b].payload.length = s.pool.buffers[b].payload.length + bytes.length := by
  simp [stored]

theorem stored_stored (b : BufIx) (d e : Byte) (s : State) : stored b [e] (stored b [d] s) = stored b [d, e] s := by
  simp [stored, Nat.add_assoc]

section
variable {data : Word} {s : State} {b : BufIx} (staged : s.pool.staged = some b)
include staged

theorem writeStgdata_narrow (narrow : s.port.wide = false) (room : s.pool.buffers[b].payload.length < 48) :
    writeStgdata data s = stored b [lowByte data] s := by
  have first : appendByte b (lowByte data) s = (true, stored b [lowByte data] s) := appendByte_room room
  simp [writeStgdata, staged, first, narrow]

theorem writeStgdata_full (full : 48 ≤ s.pool.buffers[b].payload.length) : writeStgdata data s = hostError .overfill s := by
  simp only [writeStgdata, staged, appendByte_full full]
  cases s.port.wide <;> rfl

theorem writeStgdata_wide (wide : s.port.wide = true) (room : s.pool.buffers[b].payload.length < 47) :
    writeStgdata data s = stored b [lowByte data, highByte data] s := by
  have first : appendByte b (lowByte data) s = (true, stored b [lowByte data] s) := appendByte_room (by omega)
  have second : appendByte b (highByte data) (stored b [lowByte data] s) = (true, stored b [highByte data] (stored b [lowByte data] s)) :=
    appendByte_room (by rw [stored_length]; exact Nat.succ_lt_succ room)
  simp [writeStgdata, staged, first, wide, second, stored_stored]

theorem writeStgdata_last (wide : s.port.wide = true) (last : s.pool.buffers[b].payload.length = 47) :
    writeStgdata data s = hostError .overfill (stored b [lowByte data] s) := by
  have first : appendByte b (lowByte data) s = (true, stored b [lowByte data] s) := appendByte_room (by omega)
  have second : appendByte b (highByte data) (stored b [lowByte data] s) = (false, stored b [lowByte data] s) :=
    appendByte_full (by rw [stored_length, last]; exact Nat.le_refl 48)
  simp [writeStgdata, staged, first, wide, second]

end

/-- Settles O17: the room left and the width decide how many bytes are stored. -/
theorem stgdataWriteRule : Obligations.StgdataWriteRule := by
  intro data s live
  refine ⟨fun vacant => exec_write (f := writeStgdata data) live (by simp only [writeStgdata, vacant]), fun b staged => ?_⟩
  dsimp only
  rw [lowByte_eq, highByte_eq]
  exact ⟨fun narrow room => exec_write live (writeStgdata_narrow staged narrow room), fun full => exec_write live (writeStgdata_full staged full),
    fun wide room => exec_write live (writeStgdata_wide staged wide room), fun wide last => exec_write live (writeStgdata_last staged wide last)⟩

/-! ## RXDATA (R133) -/

/-- The read pointer moved past a number of bytes. -/
def readPast (n : Nat) (s : State) : State := { s with port := { s.port with readPtr := n } }

theorem readByte_some {s : State} {d : Byte} (h : (openBytes s)[s.port.readPtr]? = some d) :
    readByte s = (some d, readPast (s.port.readPtr + 1) s) := by
  simp only [readByte, h]
  rfl

theorem readByte_none {s : State} (h : (openBytes s)[s.port.readPtr]? = none) : readByte s = (none, s) := by
  simp only [readByte, h]

theorem openBytes_readPast (n : Nat) (s : State) : openBytes (readPast n s) = openBytes s := rfl

theorem openBytes_eq {s : State} {bytes : List Byte}
    (h : s.pool.readPort = none ∧ bytes = [] ∨ ∃ b : BufIx, s.pool.readPort = some b ∧ bytes = s.pool.buffers[b].payload) :
    openBytes s = bytes := by
  rcases h with ⟨port, rfl⟩ | ⟨b, port, rfl⟩ <;> simp only [openBytes, port]

/-- Settles O22: the two bytes at the read pointer, each there or past the end, and the width. -/
theorem rxdataReadRule : Obligations.RxdataReadRule := by
  intro s bytes live opened
  have all := openBytes_eq opened
  refine ⟨fun past => exec_read live ?_, fun narrow d first => exec_read live ?_, fun wide d e first second => exec_read live ?_,
    fun wide d first second => exec_read live ?_, fun data => exec_registerWrite_eq live rfl⟩
  · have gone : readByte s = (none, s) := readByte_none (by rw [all]; exact List.getElem?_eq_none past)
    cases wide : s.port.wide <;> simp [readRxdata, gone, wide, wordOf, byteWord]
  · have taken := readByte_some (s := s) (by rw [all]; exact first)
    simp [readRxdata, taken, narrow, byteWord_eq, readPast]
  · have taken := readByte_some (s := s) (by rw [all]; exact first)
    have next := readByte_some (s := readPast (s.port.readPtr + 1) s) (by rw [openBytes_readPast, all]; exact second)
    simp only [readRxdata, taken, next, if_pos wide]
    rfl
  · have taken := readByte_some (s := s) (by rw [all]; exact first)
    have next := readByte_none (s := readPast (s.port.readPtr + 1) s) (by rw [openBytes_readPast, all]; exact second)
    simp only [readRxdata, taken, next, if_pos wide]
    rfl

/-! ## EVPOP (R175, R177) -/

/-- Settles O27: by the queue, and by the lost count of one that is not empty. -/
theorem evpopRule : Obligations.EvpopRule := by
  intro s live
  refine ⟨fun empty => exec_read (f := readEvpop) live (by simp only [readEvpop, empty]), fun e rest queue => ?_,
    fun data => exec_registerWrite_eq live rfl, fun c => by cases c <;> rfl⟩
  rw [byteWord_eq]
  have pops : readEvpop s = (byteWord e.code.code, { s with events := popped e rest s.events }) := by
    simp only [readEvpop, queue]
  refine ⟨fun kept => exec_read live (pops.trans ?_), fun lost => exec_read live (pops.trans ?_)⟩
  · rw [popped, if_pos kept]
  · rw [popped, if_neg lost]
    rfl

/-! ## The host-error latch (R181, R182) -/

theorem hostError_first {h : HostError} {s : State} (clear : s.port.latch.flag = false) :
    hostError h s = { s with port := { s.port with latch := { s.port.latch with flag := true, first := some h } } } := by
  simp [hostError, Latch.raise, clear]

theorem hostError_again {h : HostError} {s : State} (set : s.port.latch.flag = true) :
    hostError h s = { s with port := { s.port with latch := { s.port.latch with count := satInc 255 s.port.latch.count } } } := by
  simp [hostError, Latch.raise, set]

theorem hostError_flag (h : HostError) (s : State) : (hostError h s).port.latch.flag = true := by
  cases flag : s.port.latch.flag
  · rw [hostError_first flag]
  · rw [hostError_again flag]
    exact flag

/-- HERR with the flag at its top and the code in its low bits, which no code leaves (R181). -/
theorem herrByte_bits (flag : Bool) (first : Option HostError) :
    BitVec.ofNat 8 (128 * bit flag + (first.map HostError.code).getD 0) =
      BitVec.ofBool flag ++ 0#3 ++ BitVec.ofNat 4 ((first.map HostError.code).getD 0) := by
  rcases first with _ | h
  · cases flag <;> decide
  · cases flag <;> cases h <;> decide

theorem herrByte_flag (l : Latch) : (herrByte l).getLsbD 7 = l.flag := by
  have top : ∀ (flag : Bool) (code : BitVec 4), (BitVec.ofBool flag ++ 0#3 ++ code).getLsbD 7 = flag := by decide
  rw [herrByte, herrByte_bits, top]

/-- STATUS by its fields, from the top (R195). -/
theorem statusByte_bits (exhausted flag ready pending : Bool) (sweep : SweepState) (line : LineState) :
    BitVec.ofNat 8 (line.code + 4 * sweep.code + 16 * bit pending + 32 * bit ready + 64 * bit flag + 128 * bit exhausted) =
      BitVec.ofBool exhausted ++ BitVec.ofBool flag ++ BitVec.ofBool ready ++ BitVec.ofBool pending ++
        BitVec.ofNat 2 sweep.code ++ BitVec.ofNat 2 line.code := by
  cases exhausted <;> cases flag <;> cases ready <;> cases pending <;> cases sweep <;> cases line <;> rfl

theorem statusByte_flag (s : State) : (statusByte s).getLsbD 6 = s.port.latch.flag := by
  have place : ∀ (exhausted flag ready pending : Bool) (sweep line : BitVec 2), (BitVec.ofBool exhausted ++ BitVec.ofBool flag ++
      BitVec.ofBool ready ++ BitVec.ofBool pending ++ sweep ++ line).getLsbD 6 = flag := by decide
  rw [statusByte, statusByte_bits, place]

theorem writeHerr_eq (data : Word) (s : State) : writeHerr data s = if data.getLsbD 7 then
    { s with port := { s.port with latch := { s.port.latch with flag := false, count := 0 } } } else s := by
  have same : (lowByte data).getLsbD 7 = data.getLsbD 7 := by simp [lowByte]
  rw [writeHerr, same]
  rfl

/-- Settles O31: the latch by its flag, and its three views bit by bit. -/
theorem hostErrorLatchRule : Obligations.HostErrorLatchRule := by
  refine ⟨fun h s => ⟨hostError_first, fun set room => ?_, fun set full => ?_, ?_, ?_⟩, fun s => ⟨?_, rfl, statusByte_flag s⟩,
    fun data s live => ⟨fun on => exec_write live ((writeHerr_eq data s).trans (if_pos on)),
      fun off => exec_write live ((writeHerr_eq data s).trans (if_neg (Bool.eq_false_iff.1 off))),
      exec_registerWrite_eq live rfl⟩, rfl, rfl, rfl, rfl, rfl, rfl, rfl, rfl⟩
  · rw [hostError_again set, satInc, if_pos room]
  · rw [hostError_again set, satInc, if_neg (Nat.not_lt.2 full)]
  · exact (herrByte_flag _).trans (hostError_flag h s)
  · exact (statusByte_flag _).trans (hostError_flag h s)
  · refine (herrByte_bits _ _).trans ?_
    rcases s.port.latch.first with _ | h
    · rfl
    · cases h <;> rfl

/-! ## The enable mask (R179, R180) -/

theorem writeIntset_bad {data : Word} {s : State} (h : 8 ≤ (lowByte data).toNat) : writeIntset data s = hostError .badValue s :=
  if_neg (Nat.not_lt.2 h)

theorem writeIntclr_bad {data : Word} {s : State} (h : 8 ≤ (lowByte data).toNat) : writeIntclr data s = hostError .badValue s :=
  if_neg (Nat.not_lt.2 h)

theorem setWidth_mask (m : BitVec 3) : m.setWidth 8 = 0#5 ++ m := by
  revert m
  decide

/-- The byte's low three bits are the access's own. -/
theorem lowByte_mask (data : Word) {k : Nat} (h : k < 3) : ((lowByte data).setWidth 3).getLsbD k = data.getLsbD k := by
  have byte : k < 8 := by omega
  simp [lowByte, h, byte]

theorem irqAsserted_iff (s : State) : irqAsserted s = true ↔ s.port.inReset = false ∧
    ((s.port.mask.getLsbD 0 = true ∧ s.events.records ≠ []) ∨
      (s.port.mask.getLsbD 1 = true ∧ s.params.inqThr ≤ s.pool.inbound.length) ∨
      (s.port.mask.getLsbD 2 = true ∧ s.port.latch.flag = true)) := by
  simp [irqAsserted, eventPending, inboundReady, or_assoc]

/-- Settles O32: the two writes in range and out of it, the mask bit by bit, and the sources of the line. -/
theorem interruptEnableRule : Obligations.InterruptEnableRule := by
  refine ⟨fun data s live => ⟨fun high => ?_, fun low => ?_⟩,
    fun s => ⟨setWidth_mask s.port.mask, setWidth_mask s.port.mask, irqAsserted_iff s⟩⟩
  · have bad := (lowByte_toNat data).symm ▸ high
    exact ⟨exec_write live (writeIntset_bad bad), exec_write live (writeIntclr_bad bad)⟩
  · have good : (lowByte data).toNat < 8 := (lowByte_toNat data).symm ▸ low
    refine ⟨_, _, exec_write (f := writeIntset data) live (if_pos good), exec_write (f := writeIntclr data) live (if_pos good), fun k h => ⟨?_, ?_⟩⟩
    · rw [BitVec.getLsbD_or, lowByte_mask data h]
    · rw [BitVec.getLsbD_and, BitVec.getLsbD_not, lowByte_mask data h]
      simp [h]

/-! ## The line configuration (R165, R166, R3) -/

/-- The reserved bits of LOPT are its bits 2 to 6. -/
theorem lopt_reserved (b : Byte) : b &&& 0x7C#8 = 0#8 ↔ b.toNat / 4 % 32 = 0 := by
  have quotient : (b.toNat &&& 124) / 4 = b.toNat / 4 % 32 :=
    (Nat.and_div_two_pow (n := 2)).trans (Nat.and_two_pow_sub_one_eq_mod _ 5)
  have remainder : (b.toNat &&& 124) % 4 = 0 := (Nat.and_mod_two_pow (n := 2)).trans (Nat.and_zero _)
  rw [← BitVec.toNat_inj, BitVec.toNat_and]
  change b.toNat &&& 124 = 0 ↔ _
  omega

section
variable {data : Word} {s : State}

theorem writeLineConfig_locked {r : LineReg} (h : s.line.state = .running ∨ s.line.state = .draining) :
    writeLineConfig r data s = hostError .configLocked s := if_pos h

section
variable {r : LineReg} (still : s.line.state = .stopped ∨ s.line.state = .faulted)
include still

theorem not_runs : ¬(s.line.state = .running ∨ s.line.state = .draining) := by
  rcases still with h | h <;> rw [h] <;> decide

theorem writeLineConfig_bad (bad : lineRegInRange r (lowByte data) = false) : writeLineConfig r data s = hostError .badValue s := by
  rw [writeLineConfig, if_neg (not_runs still), bad]
  rfl

theorem writeLineConfig_taken (good : lineRegInRange r (lowByte data) = true) : writeLineConfig r data s =
    modFramer (dropAssembly r) { s with line := { s.line with cfg := s.line.cfg.put r (lowByte data) } } := by
  rw [writeLineConfig, if_neg (not_runs still), if_pos good]

end

end

/-- Only LRATE's write touches the receiver (R3). -/
theorem dropAssembly_other {r : LineReg} (h : r ≠ .lrate) (f : Framer) : dropAssembly r f = f := by
  cases r
  case lrate => exact absurd rfl h
  all_goals rfl

theorem dropAssembly_lrate (f : Framer) : dropAssembly .lrate f = { f with
    rx := match f.rx with
      | .assembling _ _ => .idle
      | other => other } := by
  rcases f with ⟨_, _, _, _, _, _, rx⟩
  cases rx <;> rfl

/-- Settles O33: the lock, then each register's range. -/
theorem lineConfigRule : Obligations.LineConfigRule := by
  intro data s live
  dsimp only
  rw [lowByte_eq]
  refine ⟨fun runs r => exec_write live (writeLineConfig_locked runs), fun still => ?_⟩
  have refused (r : LineReg) (bad : lineRegInRange r (lowByte data) = false) :
      exec (.lineConfigWrite r data) s = .next (finish (hostError .badValue s).undriven) :=
    exec_write live (writeLineConfig_bad still bad)
  have taken (r : LineReg) (other : r ≠ .lrate) (good : lineRegInRange r (lowByte data) = true) :
      exec (.lineConfigWrite r data) s =
        .next (finish ({ s with line := { s.line with cfg := s.line.cfg.put r (lowByte data) } }.undriven)) := by
    refine exec_write live ((writeLineConfig_taken still good).trans ?_)
    rw [modFramer, dropAssembly_other other]
  refine ⟨fun h => refused .lrate ?_, fun h => refused .lguard ?_, fun h => refused .lreply ?_, fun h => refused .lgap ?_,
    fun h => refused .lsettle ?_, fun h => refused .lopt ?_, fun h => refused .contlim ?_, fun h => taken .lguard nofun ?_,
    fun low high => taken .lreply nofun ?_, fun low high => taken .lgap nofun ?_, fun low high => taken .lsettle nofun ?_,
    fun h => taken .lopt nofun ?_, fun low high => taken .contlim nofun ?_, fun h => exec_write live ?_⟩
  case refine_14 =>
    rw [writeLineConfig_taken (r := .lrate) still (decide_eq_true h), modFramer, dropAssembly_lrate]
    rfl
  case refine_6 => exact decide_eq_false (mt (lopt_reserved _).1 h)
  case refine_12 => exact decide_eq_true ((lopt_reserved _).2 h)
  all_goals simp only [lineRegInRange, decide_eq_false_iff_not, decide_eq_true_eq] <;> omega

/-! ## The protocol parameters (R80, R135, R173, R196) -/

section
variable {data : Word} {s : State} {lo hi : Nat} {f : Params → Params}

theorem writeParam_taken {v : Byte} (low : lo ≤ v.toNat) (high : v.toNat ≤ hi) :
    writeParam lo hi v f s = { s with params := f s.params } := if_pos ⟨low, high⟩

theorem writeParam_bad {v : Byte} (h : ¬(lo ≤ v.toNat ∧ v.toNat ≤ hi)) : writeParam lo hi v f s = hostError .badValue s := if_neg h

end

/-! The parameters' rows of the register map (section 10.7). -/

section
variable (data : Word) (s : State)

theorem writeRegister_pace : writeRegister 0x29#6 data s =
    writeParam 0 255 (lowByte data) (fun p => { p with pace := (lowByte data).toNat }) s := rfl

theorem writeRegister_recover : writeRegister 0x2A#6 data s =
    writeParam 1 15 (lowByte data) (fun p => { p with recover := (lowByte data).toNat }) s := rfl

theorem writeRegister_retries : writeRegister 0x2B#6 data s =
    writeParam 0 7 (lowByte data) (fun p => { p with retries := (lowByte data).toNat }) s := rfl

theorem writeRegister_lostLim : writeRegister 0x2C#6 data s =
    writeParam 1 15 (lowByte data) (fun p => { p with lostLim := (lowByte data).toNat }) s := rfl

theorem writeRegister_busyLim : writeRegister 0x2D#6 data s =
    writeParam 1 15 (lowByte data) (fun p => { p with busyLim := (lowByte data).toNat }) s := rfl

theorem writeRegister_backoff : writeRegister 0x2E#6 data s =
    writeParam 1 15 (lowByte data) (fun p => { p with backoff := (lowByte data).toNat }) s := rfl

theorem writeRegister_maxq : writeRegister 0x2F#6 data s =
    writeParam 1 8 (lowByte data) (fun p => { p with maxq := (lowByte data).toNat }) s := rfl

theorem writeRegister_reserve : writeRegister 0x30#6 data s =
    writeParam 0 8 (lowByte data) (fun p => { p with reserve := (lowByte data).toNat }) s := rfl

end

/-- Settles O34: each register's write in its range and out of it. -/
theorem parameterWrites : Obligations.ParameterWrites := by
  intro data s live
  dsimp only
  rw [lowByte_eq]
  have byte := (lowByte data).isLt
  refine ⟨fun h => exec_write (f := writeRinglen data) live (if_neg (by omega)),
    fun low high => exec_write (f := writeRinglen data) live (if_pos ⟨low, high⟩),
    fun h => exec_write (f := writeInqthr data) live (writeParam_bad (by omega)),
    fun low high => exec_write (f := writeInqthr data) live (writeParam_taken low high),
    fun h => exec_write (f := writeEvfilter data) live (if_neg (by omega)), fun h => exec_write (f := writeEvfilter data) live (if_pos h),
    exec_registerWrite_eq live ((writeRegister_pace data s).trans (writeParam_taken (Nat.zero_le _) (by omega))),
    fun h => ?_, fun low high => ?_,
    fun h => exec_registerWrite_eq live ((writeRegister_retries data s).trans (writeParam_bad (by omega))),
    fun h => exec_registerWrite_eq live ((writeRegister_retries data s).trans (writeParam_taken (Nat.zero_le _) h)),
    fun h => exec_registerWrite_eq live ((writeRegister_maxq data s).trans (writeParam_bad (by omega))),
    fun low high => exec_registerWrite_eq live ((writeRegister_maxq data s).trans (writeParam_taken low high)),
    fun h => exec_registerWrite_eq live ((writeRegister_reserve data s).trans (writeParam_bad (by omega))),
    fun h => exec_registerWrite_eq live ((writeRegister_reserve data s).trans (writeParam_taken (Nat.zero_le _) h))⟩
  · have out : ¬(1 ≤ (lowByte data).toNat ∧ (lowByte data).toNat ≤ 15) := by omega
    exact ⟨exec_registerWrite_eq live ((writeRegister_recover data s).trans (writeParam_bad out)),
      exec_registerWrite_eq live ((writeRegister_lostLim data s).trans (writeParam_bad out)),
      exec_registerWrite_eq live ((writeRegister_busyLim data s).trans (writeParam_bad out)),
      exec_registerWrite_eq live ((writeRegister_backoff data s).trans (writeParam_bad out))⟩
  · exact ⟨exec_registerWrite_eq live ((writeRegister_recover data s).trans (writeParam_taken low high)),
      exec_registerWrite_eq live ((writeRegister_lostLim data s).trans (writeParam_taken low high)),
      exec_registerWrite_eq live ((writeRegister_busyLim data s).trans (writeParam_taken low high)),
      exec_registerWrite_eq live ((writeRegister_backoff data s).trans (writeParam_taken low high))⟩

/-! ## The remaining registers (R188, R191) -/

/-- Settles O35: each writable register by its equation, every other address read-only. -/
theorem otherRegisterWrites : Obligations.OtherRegisterWrites := by
  intro data s live
  dsimp only
  rw [lowByte_eq]
  refine ⟨exec_registerWrite_eq live rfl, exec_registerWrite_eq live rfl, exec_registerWrite_eq live rfl,
    exec_registerWrite_eq live rfl, exec_registerWrite_eq live rfl, exec_registerWrite_eq live rfl,
    fun low => exec_registerWrite_eq live (if_pos (Nat.lt_succ_of_le low)),
    fun high => exec_registerWrite_eq live (if_neg (Nat.not_lt.2 high)), fun a listed => exec_registerWrite_eq live ?_,
    exec_write (f := id) live rfl⟩
  simp only [List.mem_cons, List.not_mem_nil, or_false] at listed
  rcases listed with rfl | rfl | rfl | rfl | rfl | rfl | rfl | rfl | rfl | rfl | rfl | rfl | rfl | rfl | rfl | rfl | rfl | rfl | rfl |
    rfl | rfl | rfl | rfl | rfl | rfl | rfl | rfl | rfl | rfl | rfl | rfl | rfl | rfl <;> rfl

end Sys2Proof.Machine

/-! SUPPORT. The register window: the reads of the 16-bit registers, and what every register reads, with the proofs of their
statements. -/

namespace Sys2Proof.Machine

/-! ## The 16-bit registers (R186, R193) -/

/-- BAD_INDEX belongs to WINDATA with a selection out of range alone (R193). -/
theorem checkIndex_eq (r : WideReg) (s : State) : checkIndex r s =
    if r = .windata ∧ selection s.port = .outOfRange then hostError .badIndex s else s := by
  cases r
  case windata =>
    unfold checkIndex
    cases sel : selection s.port <;> simp
  all_goals simp [checkIndex]

theorem readUpper_held {r : WideReg} {b : Byte} {s : State} (h : s.port.hold = some (r, b)) :
    readUpper r s = (byteWord b, { s with port := { s.port with hold := none } }) := by
  simp only [readUpper, h, if_true]
  rfl

theorem readUpper_other {r : WideReg} {s : State} (h : ∀ b, s.port.hold ≠ some (r, b)) :
    readUpper r s = (byteWord (highByte (wideValue r s)), checkIndex r s) := by
  unfold readUpper
  split
  · next q b held =>
    have other : q ≠ r := fun same => h b (same ▸ held)
    rw [if_neg other]
  · rfl

/-- Settles O29: a read of the lower address, and one of the upper address with and without a hold of the register's name. -/
theorem wideRegisterReadRule : Obligations.WideRegisterReadRule := by
  intro r s live
  dsimp only
  rw [lowByte_eq, highByte_eq, byteWord_eq, byteWord_eq, ← checkIndex_eq]
  refine ⟨by cases r <;> rfl, exec_read live rfl, fun windata => by rw [windata]; rfl, fun b held => ?_,
    fun other => exec_read live (readUpper_other other)⟩
  rw [byteWord_eq]
  exact exec_read live (readUpper_held held)

/-! ## The window (R192, R193) -/

theorem windowValue_field {s : State} {i : EntryIx} {f : EntryField} (sel : s.port.winsel = 0#8) (index : s.port.winidx.toNat = i.val)
    (fld : entryField s.port.winfld = some f) : windowValue s = fieldValue s.table[i] s.pool.outbound[i].length f := by
  simp only [windowValue, selection_field sel index fld]

theorem windowValue_slot {s : State} {k : SlotIx} (sel : s.port.winsel = 1#8) (index : s.port.winidx.toNat = k.val) :
    windowValue s = byteWord (entryByte s.sched.ring[k]) := by
  simp only [windowValue, selection_slot sel index]

theorem windowValue_outOfRange {s : State} (h : selection s.port = .outOfRange) : windowValue s = 0#16 := by
  simp only [windowValue, h]

theorem entryField_none {b : Byte} (h : 17 < b.toNat) : entryField b = none := by
  cases fld : entryField b with
  | none => rfl
  | some f =>
    have number := entryField_number fld
    cases f <;> simp only [EntryField.ctorIdx] at number <;> omega

theorem selection_noField {p : Port} (sel : p.winsel = 0#8) (h : 31 < p.winidx.toNat ∨ 17 < p.winfld.toNat) :
    selection p = .outOfRange := by
  rw [selection, if_pos sel]
  rcases h with index | fld
  · rw [entryArg_none index]
  · rw [entryField_none fld]
    cases entryArg p.winidx <;> rfl

theorem selection_noSlot {p : Port} (sel : p.winsel = 1#8) (h : 63 < p.winidx.toNat) : selection p = .outOfRange := by
  have ring : p.winsel ≠ 0#8 := by rw [sel]; decide
  have slot : slotArg p.winidx = none := by
    rw [slotArg, dif_neg (Nat.not_lt.2 h)]
  simp only [selection, if_neg ring, slot]

/-- A flag as a word. -/
theorem bit_word (b : Bool) : BitVec.ofNat 16 (bit b) = if b then 1#16 else 0#16 := by cases b <;> rfl

theorem stationType_word (d : Option Ident) : (d.map fun d => byteWord d.stationType).getD 0#16 =
    match d with | none => 0#16 | some d => 0#8 ++ d.stationType := by
  cases d with
  | none => rfl
  | some d => exact (byteWord_eq d.stationType).symm

theorem serial_word (d : Option Ident) : (d.map fun d => d.serial).getD 0#16 = match d with | none => 0#16 | some d => d.serial := by
  cases d <;> rfl

theorem lastTaken_word (n : Option (BitVec 3)) : (n.map fun n => n.setWidth 16).getD 0xFF#16 =
    match n with | none => 0xFF#16 | some n => BitVec.ofNat 16 n.toNat := by
  cases n with
  | none => rfl
  | some n => exact (BitVec.ofNat_toNat 16 n).symm

/-- The byte of a vacant slot or an entry's number, as a word. -/
theorem entryByte_word (e : Option EntryIx) : byteWord (entryByte e) = match e with
    | none => 0xFF#16
    | some i => BitVec.ofNat 16 i.val := by
  cases e with
  | none => rfl
  | some i =>
    apply BitVec.eq_of_toNat_eq
    have low := i.isLt
    simp only [byteWord, entryByte, BitVec.toNat_setWidth, BitVec.toNat_ofNat]
    omega

/-! ## Each register (section 10.8) -/

/-- The buffers that no holder names, when none is named twice (R96). -/
theorem freeCount_eq {p : Pool} (once : p.held.Nodup) : p.freeCount = 24 - p.held.length := by
  have parts := List.length_eq_length_filter_add (l := List.finRange 24) fun b => p.isFree b
  have held : ((List.finRange 24).filter fun b => !p.isFree b).length = p.held.length := by
    refine (List.Perm.length_eq ?_)
    rw [List.perm_ext_iff_of_nodup ((List.nodup_finRange 24).filter _) once]
    simp [Pool.isFree]
  rw [held, List.length_finRange] at parts
  exact (Nat.sub_eq_of_eq_add parts).symm

theorem viewField_none {f : Event → Byte} {b : Byte} {v : Option Event} (h : v = none) : viewField f b v = b := by rw [h]; rfl

theorem viewField_some {f : Event → Byte} {b : Byte} {v : Option Event} {e : Event} (h : v = some e) : viewField f b v = f e := by
  rw [h]; rfl

theorem rxField_some {f : Buffer → Byte} {none' : Byte} {p : Pool} {b : BufIx} (h : p.readPort = some b) :
    rxField f none' p = f p.buffers[b] := by
  simp only [rxField, h]

theorem bit_byte (b : Bool) : natByte (bit b) = if b then 1#8 else 0#8 := by cases b <;> rfl

/-- The view of an open report (R132). -/
theorem registerValue_readPort_opened {s : State} {b : BufIx} (h : s.pool.readPort = some b) :
    registerValue 0x20#6 s = BitVec.ofNat 8 s.pool.buffers[b].srcEntry.val ∧
    registerValue 0x21#6 s = BitVec.ofNat 8 s.pool.buffers[b].srcAddr ∧
    registerValue 0x22#6 s = BitVec.ofNat 8 s.pool.buffers[b].reportNum.toNat ∧
    registerValue 0x23#6 s = BitVec.ofNat 8 s.pool.buffers[b].payload.length ∧
    registerValue 0x24#6 s = if s.pool.buffers[b].packed then 1#8 else 0#8 :=
  ⟨rxField_some (f := fun b => natByte b.srcEntry.val) (none' := 0xFF#8) h, rxField_some (f := fun b => natByte b.srcAddr) (none' := 0#8) h,
    (rxField_some (f := fun b => b.reportNum.setWidth 8) (none' := 0xFF#8) h).trans (BitVec.ofNat_toNat _ _).symm,
    rxField_some (f := fun b => natByte b.payload.length) (none' := 0#8) h,
    (rxField_some (f := fun b => natByte (bit b.packed)) (none' := 0#8) h).trans (bit_byte _)⟩

/-- STATUS, by the blocks it shows (R195). -/
theorem statusByte_eq (s : State) : statusByte s = BitVec.ofBool s.sched.exhausted ++ BitVec.ofBool s.port.latch.flag ++
    BitVec.ofBool (decide (s.params.inqThr ≤ s.pool.inbound.length)) ++ BitVec.ofBool (decide (s.events.records ≠ [])) ++
    (match s.sweep.state with | .idle => 0#2 | .active => 1#2 | .stopping => 2#2) ++
    (match s.line.state with | .stopped => 0#2 | .running => 1#2 | .draining => 2#2 | .faulted => 3#2) := by
  have pending : eventPending s = decide (s.events.records ≠ []) := by
    unfold eventPending
    cases s.events.records <;> rfl
  have sweep : BitVec.ofNat 2 s.sweep.state.code = match s.sweep.state with | .idle => 0#2 | .active => 1#2 | .stopping => 2#2 := by
    cases s.sweep.state <;> rfl
  have line : BitVec.ofNat 2 s.line.state.code =
      match s.line.state with | .stopped => 0#2 | .running => 1#2 | .draining => 2#2 | .faulted => 3#2 := by
    cases s.line.state <;> rfl
  rw [statusByte, statusByte_bits, pending, sweep, line]
  rfl

/-- CRES, by the result (R190). -/
theorem resByte_eq (r : Res) : natByte r.code = match r with
    | .ok => 0#8 | .pending => 1#8 | .tooLate => 2#8 | .tableFull => 3#8 | .duplicateAddress => 4#8 | .badAddress => 5#8
    | .badEntry => 6#8 | .badArgument => 7#8 | .wrongState => 8#8 | .noBuffer => 9#8 | .nothingStaged => 10#8
    | .noStation => 11#8 | .stationLost => 12#8 | .stationQueueFull => 13#8 | .broadcastFull => 14#8 | .listFull => 15#8
    | .notFound => 16#8 | .queueEmpty => 17#8 | .nothingOpen => 18#8 | .unknownCommand => 19#8 := by
  cases r <;> rfl

/-- A read of an address without a rule of its own drives its byte and changes nothing (R185, R187). -/
theorem busRead_plain {a : BitVec 6} {s : State} (live : s.port.inReset = false)
    (h : a ∉ ([0x0C#6, 0x0D#6, 0x0F#6, 0x10#6, 0x14#6, 0x15#6, 0x26#6, 0x27#6, 0x3A#6, 0x3B#6, 0x3C#6, 0x3D#6] : List (BitVec 6))) :
    busRead a s = finish (s.driving (byteWord (registerValue a s))) :=
  Host.Outcome.next.inj (exec_read live (readRegister_plain s h))

/-- The reads of the 16-bit registers are the reads of their two addresses (log 25). -/
theorem wideRows_busRead (s : State) : ∀ p ∈ ([(.windata, 0x0C#6), (.evdetail, 0x14#6), (.passcnt, 0x26#6), (.noisecnt, 0x3A#6),
      (.straycnt, 0x3C#6)] : List (WideReg × BitVec 6)),
    exec (.wideRegisterRead p.1 false) s = .next (busRead p.2 s) ∧ exec (.wideRegisterRead p.1 true) s = .next (busRead (p.2 + 1#6) s) := by
  intro p listed
  simp only [List.mem_cons, List.not_mem_nil, or_false] at listed
  rcases listed with rfl | rfl | rfl | rfl | rfl <;> exact ⟨rfl, rfl⟩

/-- Settles O28: each field by its number, the selections out of range, the reads as accesses, and each register by its equation. -/
theorem windowReads : Obligations.WindowReads := by
  intro s
  refine ⟨fun i sel index => ?_, fun k sel index => ?_, fun sel out => ?_, fun sel out => ?_, fun held a => busRead_held held,
    fun live => ⟨fun a plain => ?_, rfl, rfl, rfl, wideRows_busRead s⟩, ?_⟩
  · have field (n : Byte) (f : EntryField) (v : Word) (fld : entryField n = some f)
        (value : fieldValue s.table[i] s.pool.outbound[i].length f = v) (h : s.port.winfld = n) : windowValue s = v :=
      (windowValue_field sel index (h ▸ fld)).trans value
    refine ⟨field _ .state _ rfl ?_, field _ .address _ rfl rfl, field _ .holdOnLoss _ rfl (bit_word _),
      field _ .urgentOnMore _ rfl (bit_word _), field _ .identPresent _ rfl (bit_word _), field _ .stationType _ rfl ?_,
      field _ .serial _ rfl ?_, field _ .miss _ rfl rfl, field _ .nextNum _ rfl (BitVec.ofNat_toNat _ _).symm,
      field _ .fresh _ rfl (bit_word _), field _ .lastTaken _ rfl ?_, field _ .backoff _ rfl rfl,
      field _ .outboundLength _ rfl rfl, field _ .inFlight _ rfl (bit_word _), field _ .urgentListed _ rfl (bit_word _),
      field _ .goodCount _ rfl rfl, field _ .failCount _ rfl rfl, field _ .dupCount _ rfl rfl⟩
    · cases state : s.table[i].state <;> simp only [fieldValue, state, EntryState.code]
    · exact stationType_word _
    · exact serial_word _
    · exact lastTaken_word _
  · rw [windowValue_slot sel index, entryByte_word] <;> rfl
  · exact ⟨selection_noField sel out, windowValue_outOfRange (selection_noField sel out)⟩
  · exact ⟨selection_noSlot sel out, windowValue_outOfRange (selection_noSlot sel out)⟩
  · rw [byteWord_eq]
    exact busRead_plain live plain
  · refine ⟨statusByte_eq s, rfl, rfl, rfl, rfl, rfl, resByte_eq _, rfl, rfl, rfl, rfl, rfl, fun none => ?_, fun e view => ?_, rfl, rfl,
      rfl, fun once => ?_, rfl, rfl, fun vacant => registerValue_readPort_vacant vacant, fun b opened => ?_, rfl, rfl, rfl, rfl, rfl,
      rfl, rfl, rfl, rfl, rfl, rfl, rfl, rfl, rfl, rfl, rfl, rfl, rfl, rfl, rfl, bit_byte _⟩
    · exact ⟨viewField_none none, viewField_none none, viewField_none none, viewField_none none⟩
    · exact ⟨viewField_some view, (viewField_some view).trans (by cases e.entry <;> rfl), viewField_some view, viewField_some view⟩
    · exact congrArg natByte (freeCount_eq once)
    · exact registerValue_readPort_opened opened

end Sys2Proof.Machine

/-! SUPPORT. The shared operations and the outcomes of exchanges for the table, with the proofs of their statements. -/

namespace Sys2Proof.Machine

/-! ## Postings, wakes and the end notice (R75, R89, R156, R174) -/

/-- The class filter by the code's high digit; EVENTS_LOST and RESET_DONE are in no class (R171, R173). -/
theorem admits_iff (filter : Byte) (c : EventCode) :
    admits filter c = true ↔ c = .eventsLost ∨ c = .resetDone ∨ filter.getLsbD (c.code.toNat / 16 - 1) = true := by
  cases c <;> simp [admits, EventCode.classBit, EventCode.code]

theorem post_declined {e : Event} {s : State} (h : ¬admits s.events.filter e.code = true) : post e s = s := if_neg h

theorem post_queued {e : Event} {s : State} (h : admits s.events.filter e.code = true) (room : s.events.records.length < 32) :
    post e s = { s with events := { s.events with records := s.events.records ++ [e] } } := by
  rw [post, if_pos h]
  exact if_pos room

theorem post_lost {e : Event} {s : State} (h : admits s.events.filter e.code = true) (full : 32 ≤ s.events.records.length) :
    post e s = { s with events := { s.events with lost := min 255 (s.events.lost + 1) } } := by
  rw [post, if_pos h, ← satInc_eq_min]
  exact if_neg (Nat.not_lt.2 full)

theorem wake_rested {s : State} (h : s.sched.walk = .dormant ∨ s.sched.walk = .bufferWait) :
    wake s = { s with sched := { s.sched with run := {}, lookDue := true, walk := .walking } } := by
  rcases h with h | h <;> simp only [wake, arrival, h]

theorem wake_walking {s : State} (h : s.sched.walk = .walking ∨ s.sched.walk = .paceWait) :
    wake s = { s with sched := { s.sched with run := {}, lookDue := true } } := by
  rcases h with h | h <;> simp only [wake, arrival, h]

theorem freed_bufferWait {q : Scheduler} (h : q.walk = .bufferWait) : q.freed = { q with walk := .walking, run := {}, lookDue := true } :=
  if_pos h

theorem freed_deferred {q : Scheduler} {i : EntryIx} (h : q.walk ≠ .bufferWait) (deferred : q.urgentDeferred = some i)
    (head : q.urgent.head? = some i) : q.freed = { q with lookDue := true } := by
  rw [Scheduler.freed, if_neg h, deferred, if_pos ⟨nofun, head⟩]

theorem freed_quiet {q : Scheduler} (h : q.walk ≠ .bufferWait) (other : ∀ i, q.urgentDeferred = some i → q.urgent.head? ≠ some i) :
    q.freed = q := by
  rw [Scheduler.freed, if_neg h, if_neg]
  rintro ⟨deferred, head⟩
  obtain ⟨i, found⟩ := Option.ne_none_iff_exists'.1 deferred
  exact other i found (head.trans found)

/-- Settles O53: each operation by the case it meets. -/
theorem sharedOperations : Obligations.SharedOperations := by
  intro s
  refine ⟨fun e => ⟨fun out => post_declined (mt (admits_iff _ _).1 out), fun admitted => post_queued ((admits_iff _ _).2 admitted),
      fun admitted => post_lost ((admits_iff _ _).2 admitted)⟩, ⟨wake_rested, wake_walking⟩, fun wait => ?_, fun wait => ⟨fun kept => ?_,
      fun i deferred => ⟨fun head => ?_, fun head => ?_⟩⟩, fun h => ?_, fun h => ?_, fun h => ?_⟩
  · rw [bufferFreed_eq, freed_bufferWait wait]
  · rw [bufferFreed_eq, freed_quiet wait fun i deferred => absurd (kept.symm.trans deferred) nofun]
  · rw [bufferFreed_eq, freed_deferred wait deferred head]
  · rw [bufferFreed_eq, freed_quiet wait fun j found => by rwa [Option.some.inj (found.symm.trans deferred)]]
  · simp only [endNotice, h, arrival]
  · simp only [endNotice, h]
    rfl
  · rcases h with h | h <;> simp only [endNotice, h]

/-! ## Outcomes (R29 to R34, R40) -/

theorem modEntry_eq (i : EntryIx) (g : Entry → Entry) (s : State) : modEntry i g s = { s with table := s.table.set i (g s.table[i]) } := rfl

theorem modEntry_modEntry (i : EntryIx) (g h : Entry → Entry) (s : State) :
    modEntry i h (modEntry i g s) = { s with table := s.table.set i (h (g s.table[i])) } := by
  simp [modEntry, withEntry]

theorem goodFields_eq (e : Entry) : goodFields e = { e with inFlight := false, miss := 0, goodCount := min 65535 (e.goodCount + 1) } := by
  rw [goodFields, satInc_eq_min]

theorem failedFields_eq (e : Entry) : failedFields e = { e with inFlight := false, miss := min 15 (e.miss + 1) } := by
  rw [failedFields, satInc_eq_min]

/-- A record posted after a change of an entry that keeps its address carries that address. -/
theorem postEntry_modEntry {i : EntryIx} {g : Entry → Entry} {s : State} (c : EventCode) (id : Byte) (detail : Nat)
    (same : (g s.table[i]).address = s.table[i].address) : postEntry c i id detail (modEntry i g s) =
      ({ s with table := s.table.set i (g s.table[i]) }).posting [entryEvent c i s.table[i].address id detail] := by
  have address : (modEntry i g s).table[i].address = s.table[i].address := by
    rw [modEntry_eq, table_set_same]
    exact same
  rw [postEntry_eq, address]
  rfl

theorem diff_self_eq (l : List BufIx) : l.diff l = [] := by
  induction l with
  | nil => rfl
  | cons b rest ih => rw [List.diff_cons, List.erase_cons_head, ih]

/-- The miss count after a failed outcome stands below LOSTLIM or at it (R30). -/
theorem failedOutcome_eq (i : EntryIx) (s : State) : failedOutcome i s =
    let s1 := modEntry i failedFields s
    let below := decide (min 15 (s.table[i].miss + 1) < s.params.lostLim)
    match s.table[i].state with
    | .empty => s
    | .new => if below then s1 else enterLost i 1 s1
    | .online => if below then modEntry i (fun e => { e with state := .suspect }) s1 else enterLost i 2 s1
    | .suspect => if below then s1 else enterLost i 2 s1
    | .lost => s1
    | .parked => s1
    | .retiring => retireFailed i s := by
  have miss : (modEntry i failedFields s).table[i].miss = min 15 (s.table[i].miss + 1) := by
    rw [modEntry_eq, table_set_same, failedFields_eq]
  unfold failedOutcome
  dsimp only
  rw [miss] <;> rfl

/-- The entry as it stands after it has been lost (R30, R32). -/
def lostFields (e : Entry) : Entry := { e with inFlight := false, miss := min 15 (e.miss + 1), state := .lost, urgentListed := false }

/-- The state of a loss before its records: LOST, and off the urgent list. -/
def lostState (i : EntryIx) (s : State) : State := { s with
  table := s.table.set i (lostFields s.table[i])
  sched := { s.sched with urgent := s.sched.urgent.filter fun j => j != i } }

theorem lostState_entry (i : EntryIx) (s : State) : (lostState i s).table[i] = lostFields s.table[i] := table_set_same _ _ _

/-- A loss that keeps the messages, and one that fails them, in one piece (R32). -/
theorem enterLost_failed (d : Nat) (i : EntryIx) (s : State) : enterLost i d (modEntry i failedFields s) =
    let record := entryEvent .stationLost i s.table[i].address 0#8 d
    if s.table[i].holdOnLoss then (lostState i s).posting [record]
    else (departed i s.pool.outbound[i] (lostState i s)).posting (record :: flushRecords i .deliveryFailed (fun _ => 3) s.pool.outbound[i] s) := by
  have lost : dropUrgent i (modEntry i (fun e => { failedFields e with state := .lost }) s) = lostState i s := by
    rw [dropUrgent_modEntry, lostState, lostFields, failedFields_eq]
  have posted : postEntry .stationLost i 0#8 d (lostState i s) = (lostState i s).posting [entryEvent .stationLost i s.table[i].address 0#8 d] := by
    rw [postEntry_eq, lostState_entry]
    rfl
  have option : ((lostState i s).posting [entryEvent .stationLost i s.table[i].address 0#8 d]).table[i].holdOnLoss =
      s.table[i].holdOnLoss := by
    rw [posting_eq]
    change (lostState i s).table[i].holdOnLoss = _
    rw [lostState_entry]
    rfl
  have list : ((lostState i s).posting [entryEvent .stationLost i s.table[i].address 0#8 d]).pool.outbound[i] = s.pool.outbound[i] := by
    rw [posting_eq]
    rfl
  have records (es : List Event) : flushRecords i .deliveryFailed (fun _ => 3) s.pool.outbound[i] ((lostState i s).posting es) =
      flushRecords i .deliveryFailed (fun _ => 3) s.pool.outbound[i] s := by
    rw [flushRecords, flushRecords, posting_eq]
    dsimp only
    rw [lostState_entry]
    rfl
  rw [enterLost_eq]
  dsimp only
  rw [lost, posted, option, list, flush_eq, departed_posting, records, ← posting_append]
  rfl

/-- What the loss leaves when the messages go too (R32, R110). -/
theorem departed_lostState (i : EntryIx) (s : State) : departed i s.pool.outbound[i] (lostState i s) =
    let freed := if s.pool.outbound[i] = [] then lostState i s else bufferFreed (lostState i s)
    { freed with
      table := s.table.set i { lostFields s.table[i] with
        nextNum := s.table[i].nextNum + BitVec.ofNat 3 (s.pool.outbound[i].countP fun b : BufIx => s.pool.buffers[b].transmitted) }
      pool := { s.pool with outbound := s.pool.outbound.set i [] } } := by
  have list : (lostState i s).pool.outbound[i].diff s.pool.outbound[i] = [] := diff_self_eq _
  dsimp only
  rw [freed_if_eq, departed, lostState_entry, list]
  simp only [lostState, Entry.advanced, freedBy, lostFields]
  simp

section
variable {s : State} {i : EntryIx}

/-- Below LOSTLIM a failed outcome counts the miss, and makes an ONLINE entry SUSPECT (R31). -/
theorem failedOutcome_below (below : min 15 (s.table[i].miss + 1) < s.params.lostLim) :
    (s.table[i].state = .new ∨ s.table[i].state = .suspect → failedOutcome i s = modEntry i failedFields s) ∧
    (s.table[i].state = .online →
      failedOutcome i s = modEntry i (fun e => { e with state := .suspect }) (modEntry i failedFields s)) := by
  have yes := decide_eq_true below
  refine ⟨fun state => ?_, fun state => ?_⟩
  · rcases state with state | state <;> simp only [failedOutcome_eq, state, yes, if_true]
  · simp only [failedOutcome_eq, state, yes, if_true]

/-- At LOSTLIM the station is lost; a NEW one had never been reached (R31, R32). -/
theorem failedOutcome_lost (reached : s.params.lostLim ≤ min 15 (s.table[i].miss + 1))
    (state : s.table[i].state = .new ∨ s.table[i].state = .online ∨ s.table[i].state = .suspect) :
    failedOutcome i s = enterLost i (if s.table[i].state = .new then 1 else 2) (modEntry i failedFields s) := by
  have no := decide_eq_false (Nat.not_lt.2 reached)
  rcases state with state | state | state <;>
    simp only [failedOutcome_eq, state, no, Bool.false_eq_true, if_false, if_true, reduceCtorEq]

end

theorem retire_vacated (i : EntryIx) (s : State) (h : s.pool.outbound[i] = []) : retire i s =
    ({ s with table := s.table.set i {} }).posting [entryEvent .stationRetired i s.table[i].address 0#8 0] := by
  have list : s.pool.outbound.set i [] = s.pool.outbound := by rw [← h]; exact Vector.set_getElem_self _
  rw [retire_eq, vacate, withOutbound, list]
  rfl

/-- Settles O48: by the entry's state; the miss count and the hold-on-loss option decide a failed outcome. -/
theorem outcomeRule : Obligations.OutcomeRule := by
  intro s i
  dsimp only
  refine ⟨fun state => ?_, fun state => ?_, fun state => ?_, fun state => ?_, fun state => ⟨?_, ?_⟩, fun state => ?_,
    fun below => ⟨fun state => ?_, fun state => ?_⟩, fun reached state => ⟨fun hold => ?_, fun drops => ?_⟩,
    fun state empty => ⟨?_, ?_⟩, fun state listed => ?_⟩
  · simp only [goodOutcome, state]
    rw [postEntry_modEntry (g := fun e => { goodFields e with state := .online }) _ _ _ (by rfl), goodFields_eq]
  · simp only [goodOutcome, state, modEntry_eq, goodFields_eq]
  · simp only [goodOutcome, state, modEntry_eq, goodFields_eq]
  · simp only [goodOutcome, state]
    rw [postEntry_modEntry (g := fun e => { goodFields e with state := .online }) _ _ _ (by rfl), goodFields_eq]
  · simp only [goodOutcome, state, modEntry_eq, goodFields_eq]
  · simp only [failedOutcome, state, modEntry_eq, failedFields_eq]
  · simp only [failedOutcome, state, modEntry_eq, failedFields_eq]
  · rw [(failedOutcome_below below).1 state, modEntry_eq, failedFields_eq]
  · rw [(failedOutcome_below below).2 state, modEntry_modEntry, failedFields_eq]
  · rw [failedOutcome_lost reached state, enterLost_failed]
    dsimp only
    rw [if_pos hold]
    rfl
  · rw [failedOutcome_lost reached state, enterLost_failed]
    dsimp only
    rw [if_neg (Bool.eq_false_iff.1 drops), departed_lostState]
    rfl
  · simp only [goodOutcome, state]
    exact retire_vacated i s empty
  · have retires : failedOutcome i s = retire i s := by simp only [failedOutcome, state, retireFailed, empty, flush, List.foldl_nil]
    rw [retires, retire_vacated i s empty]
  · have late : (s.engine.record.map fun r => r.lateCancel).getD false = lateCancel s := by
      unfold lateCancel
      cases s.engine.record <;> rfl
    have retires : failedOutcome i s = retireFailed i s := by simp only [failedOutcome, state]
    rw [retires, late, retireFailed, retire_flush_eq, freedBy, if_neg listed, bufferFreed_eq]
    rfl

end Sys2Proof.Machine

/-! SUPPORT. The sweep's outcomes and the ends of replies, with the proofs of their statements. -/

namespace Sys2Proof.Machine

/-! ## The sweep (R141 to R148) -/

/-- What a decided outcome leaves of the sweep record, and the record it closes with. -/
def Sweep.Decides (v w : Sweep) (closing : List Event) : Prop :=
  Sweep.decided { v with outstanding := false } = { w with outstanding := false } ∧
  Sweep.closing { v with outstanding := false } = closing

/-- Below the last address the cursor moves up; at it an ACTIVE sweep completes; a STOPPING sweep ends at the cursor's place. -/
theorem Sweep.decides {v w : Sweep} {closing : List Event}
    (h : (v.state = .active ∧ v.cursor < v.last ∧ w = { v with cursor := if v.cursor < v.last then v.cursor + 1 else v.cursor } ∧
        closing = []) ∨
      (v.state = .active ∧ v.last ≤ v.cursor ∧ w = { v with state := .idle } ∧ closing = [plainEvent .sweepDone 0 0#8 1]) ∨
      (v.state = .stopping ∧
        w = { v with state := .idle, cursor := if v.cursor < v.last then v.cursor + 1 else v.cursor } ∧
        closing = [plainEvent .sweepDone (if v.cursor < v.last then v.cursor + 1 else v.cursor) 0#8 2])) : v.Decides w closing := by
  rcases h with ⟨active, below, rfl, rfl⟩ | ⟨active, atLast, rfl, rfl⟩ | ⟨stopping, rfl, rfl⟩
  · exact ⟨by simp only [Sweep.decided, active, if_pos below], by simp only [Sweep.closing, active, if_pos below]⟩
  · have reached := Nat.not_lt.2 atLast
    exact ⟨by simp only [Sweep.decided, active, if_neg reached], by simp only [Sweep.closing, active, if_neg reached]⟩
  · exact ⟨by simp only [Sweep.decided, stopping], by simp only [Sweep.closing, Sweep.decided, stopping]⟩

section
variable {t : State} {w : Sweep} {closing : List Event} (decides : t.sweep.Decides w closing)
include decides

/-- A decided outcome that has no record of its own. -/
theorem sweepDecided_told : sweepDecided (probeEnded t) = { t with sweep := { w with outstanding := false } }.posting closing := by
  rw [sweepDecided_eq]
  exact congrArg₂ (fun v es => (withSweep v (probeEnded t)).posting es) decides.1 decides.2

/-- A decided outcome behind its own record. -/
theorem sweepDecided_posted (e : Event) : sweepDecided (post e (probeEnded t)) =
    { t with sweep := { w with outstanding := false } }.posting (e :: closing) := by
  have same : (post e t).sweep.Decides w closing := by rwa [post_sweep]
  rw [post_probeEnded, sweepDecided_told same, posting_eq, posting_eq, post_eq]
  rfl

end

theorem lowestEmpty_probeEnded (s : State) : lowestEmpty (probeEnded s) = lowestEmpty s := rfl

/-- A good outcome leaves the sweep alone. -/
theorem goodOutcome_sweep (i : EntryIx) (s : State) : (goodOutcome i s).sweep = s.sweep := by
  unfold goodOutcome
  split <;> simp

section
variable {s : State} {a : Nat} {d : Ident} {w : Sweep} {closing : List Event} (decides : s.sweep.Decides w closing)
include decides

theorem sweepIdent_found (off : s.sweep.autoAdd = false) : sweepIdent a d s =
    { s with sweep := { w with outstanding := false } }.posting (identEvent .sweepFound none a d :: closing) := by
  have manual : (probeEnded s).sweep.autoAdd = false := off
  simp only [sweepIdent, manual, Bool.false_eq_true, if_false]
  exact sweepDecided_posted decides _

theorem sweepIdent_noRoom (on : s.sweep.autoAdd = true) (full : lowestEmpty s = none) : sweepIdent a d s =
    { s with sweep := { w with outstanding := false } }.posting (identEvent .sweepNoRoom none a d :: closing) := by
  have auto : (probeEnded s).sweep.autoAdd = true := on
  simp only [sweepIdent, auto, lowestEmpty_probeEnded, full, if_true]
  exact sweepDecided_posted decides _

theorem sweepIdent_added {i : EntryIx} (on : s.sweep.autoAdd = true) (free : lowestEmpty s = some i) : sweepIdent a d s =
    { wake { s with table := s.table.set i (autoAddedEntry a d) } with sweep := { w with outstanding := false } }.posting
      (identEvent .sweepAdded (some i) a d :: closing) := by
  have auto : (probeEnded s).sweep.autoAdd = true := on
  simp only [sweepIdent, auto, lowestEmpty_probeEnded, free, if_true]
  have same : (wake { s with table := s.table.set i (autoAddedEntry a d) }).sweep.Decides w closing := by rwa [wake_sweep]
  exact sweepDecided_posted same _

theorem sweepFailure_conflict {why : Reason} (other : why ≠ .contention) (heard : why ≠ .noReply) : sweepFailure a why s =
    { s with sweep := { w with outstanding := false } }.posting (plainEvent .sweepConflict a 0#8 why.code :: closing) := by
  unfold sweepFailure
  split
  · exact absurd rfl other
  · exact absurd rfl heard
  · exact sweepDecided_posted decides _

theorem probeIdent_applied {i : EntryIx} (holder : holderOf a s = some i) : probeIdent a d s =
    { applyIdent i d s with sweep := { w with outstanding := false } }.posting closing := by
  have same : (applyIdent i d s).sweep.Decides w closing := by rwa [applyIdent, goodOutcome_sweep, modEntry_sweep]
  simp only [probeIdent, holder]
  exact sweepDecided_told same

end

/-- The one entry that holds an address is the one the search finds (R22). -/
theorem holderOf_eq {a : Nat} {s : State} {i : EntryIx} (occupied : s.table[i].state ≠ .empty) (address : s.table[i].address = a)
    (alone : ∀ j : EntryIx, s.table[j].state ≠ .empty → s.table[j].address = a → j = i) : holderOf a s = some i := by
  cases found : holderOf a s with
  | none => exact absurd address ((holderOf_none_iff a s).1 found i occupied)
  | some j =>
    obtain ⟨held, named⟩ := holderOf_spec found
    rw [alone j held named]

/-- Settles O52: each outcome by its own record, behind which the sweep's place decides the rest. -/
theorem sweepOutcomeRule : Obligations.SweepOutcomeRule := by
  intro s a d
  refine ⟨fun w closing place => ?_, fun active => ?_, fun stopping => ?_, fun free => ?_, fun why => by cases why <;> rfl⟩
  · have decides := Sweep.decides place
    exact ⟨sweepDecided_told decides, sweepIdent_found decides, fun on full => sweepIdent_noRoom decides on ((lowestEmpty_none_iff s).2 full),
      fun i on free lowest => sweepIdent_added decides on (find_lowest _ i (by simpa using free) (by simpa using lowest)),
      fun why other heard => sweepFailure_conflict decides other heard,
      fun i occupied address alone => probeIdent_applied decides (holderOf_eq occupied address alone)⟩
  · have undecided : sweepFailure a .contention s = sweepUndecided s := rfl
    rw [undecided, sweepUndecided_eq, if_neg (by rw [active]; decide)]
    rfl
  · have undecided : sweepFailure a .contention s = sweepUndecided s := rfl
    rw [undecided, sweepUndecided_eq, if_pos stopping]
    rfl
  · simp only [probeIdent, (holderOf_none_iff a s).2 free]

end Sys2Proof.Machine

/-! SUPPORT. Replies and abandonments: what they do to the pool and the table, with the proofs of their statements. -/

namespace Sys2Proof.Machine

/-! ## Reports (R121 to R129) -/

/-- The reservation returned to the free list (R119). -/
def reservationFreed (s : State) : State := { bufferFreed s with pool := { s.pool with reserved := none } }

theorem releaseReservation_eq {s : State} {b : BufIx} (h : s.pool.reserved = some b) : releaseReservation s = reservationFreed s := by
  simp only [releaseReservation, h, reservationFreed, bufferFreed_eq]

/-- The entry listed as urgent by the more bit, where R92 and R129 allow it. -/
def listedByMore (i : EntryIx) (tag : BitVec 4) (s t : State) : State :=
  if tag.getLsbD 3 ∧ s.table[i].urgentOnMore ∧ s.table[i].state ≠ .empty ∧ s.table[i].state ≠ .parked ∧ i ∉ s.sched.urgent ∧
      s.sched.urgent.length < 8 then
    { t with
      table := t.table.set i { t.table[i] with urgentListed := true }
      sched := { t.sched with urgent := s.sched.urgent ++ [i] } }
  else t

/-- The more bit is judged by the entry's option and state and by the list, which the taking of a report leaves as they were. -/
theorem actOnMore_eq {i : EntryIx} {tag : BitVec 4} {s t : State} (staying : s.table[i].state ≠ .retiring)
    (state : t.table[i].state = s.table[i].state) (option : t.table[i].urgentOnMore = s.table[i].urgentOnMore)
    (list : t.sched.urgent = s.sched.urgent) : actOnMore i tag t = listedByMore i tag s t := by
  have served : ineligible i t = true ↔ s.table[i].state = .empty ∨ s.table[i].state = .parked := by
    unfold ineligible
    rw [state]
    generalize s.table[i].state = kept at staying
    revert staying
    cases kept <;> decide
  have lists : listUrgent i t = { t with
      table := t.table.set i { t.table[i] with urgentListed := true }
      sched := { t.sched with urgent := s.sched.urgent ++ [i] } } := by rw [← list]; rfl
  have capacity : Config.urgentCapacity = 8 := rfl
  unfold actOnMore requestUrgent
  rw [option, list, lists, capacity]
  by_cases more : tag.getLsbD 3 = true ∧ s.table[i].urgentOnMore = true
  · rw [if_pos (Bool.and_eq_true_iff.2 more)]
    by_cases out : s.table[i].state = .empty ∨ s.table[i].state = .parked
    · rw [if_pos (served.2 out), listedByMore, if_neg (by tauto)]
    · rw [if_neg (mt served.1 out)]
      by_cases listed : i ∈ s.sched.urgent
      · rw [if_pos (List.contains_iff_mem.2 listed), listedByMore, if_neg (by tauto)]
      · rw [if_neg (mt List.contains_iff_mem.1 listed)]
        by_cases full : 8 ≤ s.sched.urgent.length
        · rw [if_pos full, listedByMore, if_neg (by omega)]
        · rw [if_neg full, listedByMore,
            if_pos ⟨more.1, more.2, fun h => out (.inl h), fun h => out (.inr h), listed, Nat.lt_of_not_le full⟩]
  · rw [if_neg (mt Bool.and_eq_true_iff.1 more), listedByMore, if_neg (by tauto)]

/-- A duplicate: the reservation freed, and the count raised (R124). -/
theorem takeDuplicate_eq {i : EntryIx} {s : State} {b : BufIx} (h : s.pool.reserved = some b) : takeDuplicate i s =
    { reservationFreed s with table := s.table.set i { s.table[i] with dupCount := min 255 (s.table[i].dupCount + 1) } } := by
  rw [takeDuplicate, releaseReservation_eq h, reservationFreed, bufferFreed_eq, modEntry_eq, satInc_eq_min]

/-- A new report: at the tail of the inbound queue, with its source and number (R125, R126). -/
theorem takeNew_eq {i : EntryIx} {packed : Bool} {num : BitVec 3} {s : State} {b : BufIx} (h : s.pool.reserved = some b) :
    takeNew i packed num s = { s with
      table := s.table.set i { s.table[i] with lastTaken := some num }
      pool := { s.pool with
        reserved := none
        inbound := s.pool.inbound ++ [b]
        buffers := s.pool.buffers.set b (takenBuffer i s.table[i].address num packed s.pool.buffers[b]) } } := by
  simp only [takeNew, h]
  rfl

theorem takeReport_retiring {i : EntryIx} {packed : Bool} {tag : BitVec 4} {s : State} (h : s.table[i].state = .retiring) :
    takeReport i packed tag s = releaseReservation s := if_pos h

theorem takeReport_duplicate {i : EntryIx} {packed : Bool} {tag : BitVec 4} {s : State} (staying : s.table[i].state ≠ .retiring)
    (last : s.table[i].lastTaken = some (numOf tag)) : takeReport i packed tag s = actOnMore i tag (takeDuplicate i s) := by
  rw [takeReport, if_neg staying, if_pos last]

theorem takeReport_new {i : EntryIx} {packed : Bool} {tag : BitVec 4} {s : State} (staying : s.table[i].state ≠ .retiring)
    (last : s.table[i].lastTaken ≠ some (numOf tag)) : takeReport i packed tag s = actOnMore i tag (takeNew i packed (numOf tag) s) := by
  rw [takeReport, if_neg staying, if_neg last]

/-! ## The ends of a DELIVER (R107 to R109, R115, R40) -/

/-- The transmitted head leaves: its number moves on, and its buffer returns (R104, R106). -/
def headGone (i : EntryIx) (e : Entry) (rest : List BufIx) (s : State) : State := { bufferFreed s with
  table := s.table.set i { e with nextNum := s.table[i].nextNum + 1#3 }
  pool := { s.pool with outbound := s.pool.outbound.set i rest } }

section
variable {s : State} {i : EntryIx} {b : BufIx} {rest : List BufIx} (list : s.pool.outbound[i] = b :: rest)
  (sent : s.pool.buffers[b].transmitted = true)
include list sent

/-- The departure of the head, its entry changed before it in fields that the departure leaves alone. -/
theorem departWith_head (g : Entry → Entry) (c : EventCode) (detail : Nat) (address : (g s.table[i]).address = s.table[i].address)
    (number : (g s.table[i]).nextNum = s.table[i].nextNum) : departWith i b c detail (modEntry i g s) =
      (headGone i (g s.table[i]) rest s).posting [entryEvent c i s.table[i].address s.pool.buffers[b].msgId detail] := by
  rw [departWith_one, modEntry_eq, bufferFreed_eq, headGone, bufferFreed_eq]
  dsimp only
  rw [table_set_same, address, number, if_pos sent, list, List.erase_cons_head, Vector.set_set]

theorem departWith_head_same (c : EventCode) (detail : Nat) : departWith i b c detail s =
    (headGone i s.table[i] rest s).posting [entryEvent c i s.table[i].address s.pool.buffers[b].msgId detail] := by
  have same : modEntry i id s = s := by
    rw [modEntry_eq]
    exact congrArg (fun t => { s with table := t }) (Vector.set_getElem_self _)
  have leaves := departWith_head list sent id c detail rfl rfl
  rwa [same] at leaves

theorem depart_head : depart i b s = headGone i s.table[i] rest s := by
  rw [depart_eq, departed, advanced_one, if_pos sent, list, List.diff_cons, List.diff_nil, List.erase_cons_head,
    if_neg (List.cons_ne_nil b []), headGone, bufferFreed_eq]

theorem acceptEnd_eq : acceptEnd i b s = (headGone i { s.table[i] with fresh := false } rest s).posting
    [entryEvent .delivered i s.table[i].address s.pool.buffers[b].msgId 0] := by
  have cleared : modEntry i (fun e => { e with fresh := false }) (headGone i s.table[i] rest s) =
      headGone i { s.table[i] with fresh := false } rest s := by
    rw [modEntry_eq, headGone, headGone]
    dsimp only
    rw [table_set_same, Vector.set_set]
  have address : (headGone i { s.table[i] with fresh := false } rest s).table[i].address = s.table[i].address := by
    rw [headGone]
    dsimp only
    rw [table_set_same]
  rw [acceptEnd, depart_head list sent, cleared, postEntry_eq, address]

/-- REFUSE to an entry that stays: the mark decides the record (R108, R115). -/
theorem refuseEnd_eq : refuseEnd i b s = (headGone i s.table[i] rest s).posting [entryEvent
    (if s.pool.buffers[b].mark = .cancelPending then .cancelled else .deliveryFailed) i s.table[i].address s.pool.buffers[b].msgId 1] := by
  unfold refuseEnd
  split <;> exact departWith_head_same list sent _ _

/-- BUSY for a message that was to be cancelled (R115). -/
theorem busyEnd_cancelled (marked : s.pool.buffers[b].mark = .cancelPending) : busyEnd i b s =
    (headGone i { s.table[i] with backoff := s.params.backoff } rest s).posting
      [entryEvent .cancelled i s.table[i].address s.pool.buffers[b].msgId 1] := by
  have leaves := departWith_head list sent (fun e => { e with backoff := s.params.backoff }) .cancelled 1 rfl rfl
  unfold busyEnd
  rw [if_pos marked, leaves]

end

/-- The head kept after a BUSY, or counted before it leaves (R109). -/
def busyCounted (b : BufIx) (s : State) : State := { s with
  pool := { s.pool with buffers := s.pool.buffers.set b { s.pool.buffers[b] with
    busyCount := min 15 (s.pool.buffers[b].busyCount + 1) } } }

theorem busyCounted_buffer (b : BufIx) (s : State) : (busyCounted b s).pool.buffers[b] =
    { s.pool.buffers[b] with busyCount := min 15 (s.pool.buffers[b].busyCount + 1) } := buffers_set_same _ _ _

theorem busyEnd_eq {i : EntryIx} {b : BufIx} {s : State} (marked : s.pool.buffers[b].mark ≠ .cancelPending) : busyEnd i b s =
    if min 15 (s.pool.buffers[b].busyCount + 1) < s.params.busyLim then
      setMark b .queued (modEntry i (fun e => { e with backoff := s.params.backoff }) (busyCounted b s))
    else departWith i b .deliveryFailed 2 (modEntry i (fun e => { e with backoff := s.params.backoff }) (busyCounted b s)) := by
  have counted : modBuffer b (fun x => { x with busyCount := satInc 15 x.busyCount })
      (modEntry i (fun e => { e with backoff := s.params.backoff }) s) =
      modEntry i (fun e => { e with backoff := s.params.backoff }) (busyCounted b s) := by
    rw [modBuffer, satInc_eq_min]
    rfl
  have count : (modEntry i (fun e => { e with backoff := s.params.backoff }) (busyCounted b s)).pool.buffers[b].busyCount =
      min 15 (s.pool.buffers[b].busyCount + 1) :=
    congrArg Buffer.busyCount (buffers_set_same _ _ _)
  unfold busyEnd
  dsimp only
  rw [if_neg marked, counted, count]
  rfl

theorem numOf_eq (tag : BitVec 4) : tag.extractLsb' 0 3 = numOf tag := (BitVec.setWidth_eq_extractLsb' (by decide)).symm

/-- The detail of a RETIRING head's record by its mark (R40, log 7). -/
theorem retireDetail_unmarked {late : Bool} {x : Buffer} (h : x.mark ≠ .cancelPending) : retireDetail late x = 2 :=
  if_neg fun both => h both.1

theorem retireDetail_marked {late : Bool} {x : Buffer} (h : x.mark = .cancelPending) : retireDetail late x = if late then 2 else 1 := by
  cases late <;> simp [retireDetail, h]

/-- Settles O49: reports by the target's state and the last number taken; the ends of a DELIVER by the reply, the target and the mark. -/
theorem replyRule : Obligations.ReplyRule := by
  refine ⟨fun s i b packed tag held => ?_, fun s i b rest list sent => ?_, rfl, fun v c rest => rfl⟩
  · have freed := releaseReservation_eq held
    dsimp only
    rw [numOf_eq]
    refine ⟨fun retiring => (takeReport_retiring retiring).trans freed, fun staying last => ?_, fun staying last => ?_⟩
    · have taken := takeDuplicate_eq (i := i) held
      rw [takeReport_duplicate staying last, actOnMore_eq (s := s) staying, taken]
      · rfl
      all_goals rw [taken]
      · simp [table_set_same]
      · simp [table_set_same]
      · rw [reservationFreed, bufferFreed_eq]
        exact freed_urgent _
    · have taken := takeNew_eq (i := i) (packed := packed) (num := numOf tag) held
      rw [takeReport_new staying last, actOnMore_eq (s := s) staying, taken]
      · rfl
      all_goals rw [taken]
      · simp [table_set_same]
      · simp [table_set_same]
  · have retired (h : s.table[i].state = .retiring) (detail : Nat) (d : retireDetail (lateCancel s) s.pool.buffers[b] = detail) :
        deliverEnd i b .refuse s = (headGone i s.table[i] rest s).posting
          [entryEvent .cancelled i s.table[i].address s.pool.buffers[b].msgId detail] ∧
        deliverEnd i b .busy s = (headGone i s.table[i] rest s).posting
          [entryEvent .cancelled i s.table[i].address s.pool.buffers[b].msgId detail] := by
      simp only [deliverEnd, if_pos h, d]
      exact ⟨departWith_head_same list sent _ _, departWith_head_same list sent _ _⟩
    have stays (h : s.table[i].state ≠ .retiring) : deliverEnd i b .refuse s = refuseEnd i b s ∧ deliverEnd i b .busy s = busyEnd i b s := by
      simp only [deliverEnd, if_neg h, and_self]
    refine ⟨acceptEnd_eq list sent, fun staying marked => ?_, fun staying marked => ?_, fun retiring marked =>
      retired retiring 2 (retireDetail_unmarked marked), fun r record retiring marked => retired retiring _ ?_⟩
    · rw [(stays staying).1, (stays staying).2, refuseEnd_eq list sent, busyEnd_cancelled list sent marked, if_pos marked]
      exact ⟨rfl, rfl⟩
    · rw [(stays staying).1, (stays staying).2, refuseEnd_eq list sent, busyEnd_eq marked, if_neg marked]
      refine ⟨rfl, fun below => ?_, fun reached => ?_⟩
      · rw [if_pos below, setMark, modBuffer, modEntry_eq, busyCounted]
        dsimp only
        rw [buffers_set_same, Vector.set_set]
      · rw [if_neg (Nat.not_lt.2 reached)]
        have leaves := departWith_head (s := busyCounted b s) (i := i) (b := b) (rest := rest) list
          (by rw [busyCounted_buffer]; exact sent)
          (fun e => { e with backoff := s.params.backoff }) .deliveryFailed 2 rfl rfl
        have id : (busyCounted b s).pool.buffers[b].msgId = s.pool.buffers[b].msgId := by rw [busyCounted_buffer]
        rw [leaves, id, headGone, bufferFreed_eq, bufferFreed_eq]
        rfl
    · rw [retireDetail_marked marked]
      simp only [lateCancel, record]

end Sys2Proof.Machine

/-! SUPPORT. The abandonment path by the kind of the exchange, with the proof of its statement. -/

namespace Sys2Proof.Machine

/-- The last steps of an abandonment: the engine IDLE, and the quiet request gone (R68, R162). -/
def idled (t : State) : State := { t with engine := {}, line := { t.line with quiet := none } }

/-- The abandonment path in its order: the framer's stop, the record, the exchange's outcome, and the engine IDLE (R68). -/
theorem abandon_eq {c : Cause} {rxdHigh : Bool} {s : State} {r : InFlight} (record : s.engine.record = some r) : abandon c rxdHigh s =
    idled (abandonOutcome r.exch ((framerStop rxdHigh s).posting [abortedEvent r.exch c s])) := by
  simp only [abandon, record]
  rfl

/-! ## The outcome by kind (R33, R41, R68) -/

section
variable {t : State} {i : EntryIx}

theorem abandonedOutcome_staying (staying : t.table[i].state ≠ .retiring) :
    abandonedOutcome i t = { t with table := t.table.set i { t.table[i] with inFlight := false } } := if_neg staying

theorem abandonedOutcome_retiring (retiring : t.table[i].state = .retiring) :
    abandonedOutcome i t = (vacate i { t with sched := freedBy t.pool.outbound[i] t.sched }).posting
      (flushRecords i .cancelled (fun _ => 2) t.pool.outbound[i] t ++ [entryEvent .stationRetired i t.table[i].address 0#8 0]) := by
  rw [abandonedOutcome, if_pos retiring, retire_flush_eq]

variable {d : BufIx}

theorem abandonPoll_staying (b : BufIx) (reserved : t.pool.reserved = some d) (staying : t.table[i].state ≠ .retiring) :
    abandonOutcome (.poll i b) t = { reservationFreed t with table := t.table.set i { t.table[i] with inFlight := false } } := by
  have same : (reservationFreed t).table = t.table := bufferFreed_table t
  have still : (reservationFreed t).table[i].state ≠ .retiring := by rwa [same]
  change abandonedOutcome i (releaseReservation t) = _
  rw [releaseReservation_eq reserved, abandonedOutcome_staying still, same]

theorem abandonPoll_retiring (b : BufIx) (reserved : t.pool.reserved = some d) (retiring : t.table[i].state = .retiring)
    (empty : t.pool.outbound[i] = []) : abandonOutcome (.poll i b) t =
      ({ reservationFreed t with table := t.table.set i {} }).posting [entryEvent .stationRetired i t.table[i].address 0#8 0] := by
  have same : (reservationFreed t).table = t.table := bufferFreed_table t
  have still : (reservationFreed t).table[i].state = .retiring := by rwa [same]
  change abandonedOutcome i (releaseReservation t) = _
  rw [releaseReservation_eq reserved, abandonedOutcome, if_pos still]
  have nothing : (reservationFreed t).pool.outbound[i] = [] := empty
  rw [nothing]
  change retire i (reservationFreed t) = _
  rw [retire_vacated i _ nothing, same]

variable {b : BufIx}

theorem abandonDeliver_requeued (marked : t.pool.buffers[b].mark ≠ .cancelPending) (staying : t.table[i].state ≠ .retiring) :
    abandonOutcome (.deliver i b) t = { t with
      table := t.table.set i { t.table[i] with inFlight := false }
      pool := { t.pool with buffers := t.pool.buffers.set b { t.pool.buffers[b] with mark := .queued } } } := by
  change abandonedOutcome i (abandonMessage i b t) = _
  rw [abandonMessage, if_neg marked]
  exact abandonedOutcome_staying (t := setMark b .queued t) staying

/-- The marked message leaves before the entry is settled (R68, R115). -/
theorem abandonMessage_cancelled (marked : t.pool.buffers[b].mark = .cancelPending) : abandonMessage i b t =
    ({ t with
      table := t.table.set i { t.table[i] with
        nextNum := if t.pool.buffers[b].transmitted then t.table[i].nextNum + 1#3 else t.table[i].nextNum }
      pool := { t.pool with outbound := t.pool.outbound.set i (t.pool.outbound[i].erase b) }
      sched := t.sched.freed }).posting [entryEvent .cancelled i t.table[i].address t.pool.buffers[b].msgId 1] := by
  rw [abandonMessage, if_pos marked, departWith_one, bufferFreed_eq]

theorem abandonDeliver_cancelled (marked : t.pool.buffers[b].mark = .cancelPending) (staying : t.table[i].state ≠ .retiring) :
    abandonOutcome (.deliver i b) t = ({ t with
      table := t.table.set i { t.table[i] with
        inFlight := false
        nextNum := if t.pool.buffers[b].transmitted then t.table[i].nextNum + 1#3 else t.table[i].nextNum }
      pool := { t.pool with outbound := t.pool.outbound.set i (t.pool.outbound[i].erase b) }
      sched := t.sched.freed }).posting [entryEvent .cancelled i t.table[i].address t.pool.buffers[b].msgId 1] := by
  change abandonedOutcome i (abandonMessage i b t) = _
  rw [abandonMessage_cancelled marked, posting_eq, abandonedOutcome_staying (by dsimp only; rw [table_set_same]; exact staying), posting_eq]
  dsimp only
  rw [table_set_same, Vector.set_set]

theorem abandonDeliver_removed (marked : t.pool.buffers[b].mark ≠ .cancelPending) (retiring : t.table[i].state = .retiring)
    (list : t.pool.outbound[i] = [b]) : abandonOutcome (.deliver i b) t = ({ t with
      table := t.table.set i {}
      pool := { t.pool with
        buffers := t.pool.buffers.set b { t.pool.buffers[b] with mark := .queued }
        outbound := t.pool.outbound.set i [] }
      sched := t.sched.freed }).posting [entryEvent .cancelled i t.table[i].address t.pool.buffers[b].msgId 2,
        entryEvent .stationRetired i t.table[i].address 0#8 0] := by
  have queued : (setMark b .queued t).pool.outbound[i] = [b] := list
  change abandonedOutcome i (abandonMessage i b t) = _
  rw [abandonMessage, if_neg marked, abandonedOutcome_retiring (t := setMark b .queued t) retiring, queued, freedBy,
    if_neg (List.cons_ne_nil b []), flushRecords, List.map_singleton]
  have id : (setMark b .queued t).pool.buffers[b].msgId = t.pool.buffers[b].msgId := by
    rw [setMark, modBuffer]
    dsimp only
    rw [buffers_set_same]
  rw [id]
  rfl

theorem abandonDeliver_retired (marked : t.pool.buffers[b].mark = .cancelPending) (retiring : t.table[i].state = .retiring)
    (list : t.pool.outbound[i] = [b]) : abandonOutcome (.deliver i b) t = ({ t with
      table := t.table.set i {}
      pool := { t.pool with outbound := t.pool.outbound.set i [] }
      sched := t.sched.freed }).posting [entryEvent .cancelled i t.table[i].address t.pool.buffers[b].msgId 1,
        entryEvent .stationRetired i t.table[i].address 0#8 0] := by
  change abandonedOutcome i (abandonMessage i b t) = _
  rw [abandonMessage_cancelled marked, posting_eq, abandonedOutcome_retiring (by dsimp only; rw [table_set_same]; exact retiring)]
  dsimp only
  rw [outbound_set_same, list, List.erase_cons_head, table_set_same]
  simp only [posting_eq, vacate, withEntry, withOutbound, freedBy, if_true, Vector.set_set, flushRecords]
  rfl

end

/-- Settles O26: the path in its order, with the outcome of each kind. -/
theorem abandonmentRule : Obligations.AbandonmentRule := by
  intro c rxdHigh s r record
  have path := abandon_eq (c := c) (rxdHigh := rxdHigh) record
  refine ⟨fun i b d poll reserved => ⟨fun staying => ?_, fun retiring empty => ?_⟩,
    fun i b deliver => ⟨fun staying marked => ?_, fun staying marked => ?_, fun retiring marked list => ?_, fun retiring marked list => ?_⟩,
    fun a probe => ⟨fun goesOn => ?_, fun stops => ?_⟩, fun b all => ?_, by cases c <;> rfl⟩
  · rw [path, poll, posting_eq, abandonPoll_staying b (by exact reserved) (by exact staying)]
    simp only [reservationFreed, posting_eq, bufferFreed_eq]
    rfl
  · rw [path, poll, posting_eq, abandonPoll_retiring b (by exact reserved) (by exact retiring) (by exact empty)]
    simp only [reservationFreed, posting_eq, bufferFreed_eq]
    rfl
  · rw [path, deliver, posting_eq, abandonDeliver_requeued (by exact marked) (by exact staying)]
    simp only [posting_eq]
    rfl
  · rw [path, deliver, posting_eq, abandonDeliver_cancelled (by exact marked) (by exact staying)]
    simp only [posting_eq, bufferFreed_eq]
    rfl
  · rw [path, deliver, posting_eq, abandonDeliver_removed (by exact marked) (by exact retiring) (by exact list)]
    simp only [posting_eq, bufferFreed_eq]
    rfl
  · rw [path, deliver, posting_eq, abandonDeliver_retired (by exact marked) (by exact retiring) (by exact list)]
    simp only [posting_eq, bufferFreed_eq]
    rfl
  · rw [path, probe, posting_eq]
    change idled (sweepUndecided _) = _
    rw [sweepUndecided_eq, if_neg (by exact goesOn)]
    simp only [posting_eq]
    rfl
  · rw [path, probe, posting_eq]
    change idled (sweepUndecided _) = _
    rw [sweepUndecided_eq, if_pos (by exact stops)]
    simp only [posting_eq]
    rfl
  · rw [path, all, posting_eq]
    simp only [posting_eq]
    rfl

end Sys2Proof.Machine

/-! SUPPORT. The engine: framer reports, the classification of a frame, failed attempts and the decision after them, with the proofs
of their statements. -/

namespace Sys2Proof.Machine

/-! ## Reports (R53 to R58) -/

section
variable {s : State} {r : InFlight} (record : s.engine.record = some r)
include record

theorem engineReport_guard (p : Report) (state : s.engine.state = .guard) :
    engineReport p s = { s with engine := { s.engine with kept := s.engine.kept ++ [p] } } := if_pos state

theorem engineReport_lead {edge window : Nat} (state : s.engine.state = .await) (open' : s.engine.windowEnd = some window) :
    engineReport (.leadTaken edge) s =
      if edge ≤ window then { s with engine := { s.engine with state := .receiving, windowEnd := none, takeLimit := none } }
      else enterDrain (discardMode (failAttempt .noReply s)) := by
  simp only [engineReport, handleReport, state, record, open', reduceCtorEq, if_false, decide_eq_true_eq]

theorem engineReport_quiet (state : s.engine.state = .drain) : engineReport .quietAfterDiscard s = decision s := by
  simp only [engineReport, handleReport, state, record, reduceCtorEq, if_false]

section
variable (state : s.engine.state = .receiving)
include state

theorem engineReport_overlength : engineReport .overlength s = enterDrain (failAttempt .overlength s) := by
  simp only [engineReport, handleReport, state, record, reduceCtorEq, if_false]

theorem engineReport_framing : engineReport .framing s = enterDrain (failAttempt .framing s) := by
  simp only [engineReport, handleReport, state, record, reduceCtorEq, if_false]

theorem engineReport_truncated : engineReport .truncated s = decision (failAttempt .truncated s) := by
  simp only [engineReport, handleReport, state, record, reduceCtorEq, if_false]

theorem engineReport_payload (d : Byte) : engineReport (.payloadByte d) s = storePayload r.exch d s := by
  simp only [engineReport, handleReport, state, record, reduceCtorEq, if_false]

theorem engineReport_header_bad {why : Reason} (fault : headerFault r.exch (frameAddress r.exch s) s.framer = some why) :
    engineReport .header s = enterDrain (discardMode (failAttempt why s)) := by
  simp only [engineReport, handleReport, state, record, reduceCtorEq, if_false, fault]

theorem engineReport_header_good (fault : headerFault r.exch (frameAddress r.exch s) s.framer = none) :
    engineReport .header s = s := by
  simp only [engineReport, handleReport, state, record, reduceCtorEq, if_false, fault]

theorem engineReport_failed {good : Bool} {k : ReplyKind} {why : Reason} (kind : replyKind (kindOf s.framer.hdrKindTag) = some k)
    (fault : classify r k good s = some why) : engineReport (.complete good) s = decision (failAttempt why s) := by
  simp only [engineReport, handleReport, state, record, reduceCtorEq, if_false, kind, fault]

theorem engineReport_good {good : Bool} {k : ReplyKind} (kind : replyKind (kindOf s.framer.hdrKindTag) = some k)
    (clean : classify r k good s = none) (answered : answers r.exch k = true) : engineReport (.complete good) s = goodEnd r k s := by
  simp only [engineReport, handleReport, state, record, reduceCtorEq, if_false, kind, clean, answered, if_true]

end

end

/-! ## The header check (R55) -/

/-- The kind code of a station kind (R5). -/
def ReplyKind.number : ReplyKind → Nat
  | .report => 8
  | .packedReport => 9
  | .quiet => 10
  | .accept => 11
  | .busy => 12
  | .refuse => 13
  | .ident => 14

theorem replyKind_number (k : ReplyKind) : replyKind k.number = some k := by cases k <;> rfl

theorem number_of_replyKind {n : Nat} {k : ReplyKind} (h : replyKind n = some k) : n = k.number := by
  unfold replyKind at h
  split at h <;> cases h <;> rfl

theorem replyKind_none_out {n : Nat} (h : replyKind n = none) (k : ReplyKind) : n ≠ k.number := by
  rintro rfl
  rw [replyKind_number] at h
  exact nomatch h

/-- The kind codes of an exchange's good replies (R47). -/
def goodCodes (x : Exchange) : List Nat :=
  match x with
  | .poll _ _ => [8, 9, 10]
  | .deliver _ _ => [11, 12, 13]
  | .probe _ => [14]
  | .broadcast _ => []

theorem answers_iff (x : Exchange) (k : ReplyKind) : answers x k = true ↔ k.number ∈ goodCodes x := by
  cases x <;> cases k <;> simp [answers, goodCodes, ReplyKind.number]

/-- A good code is a station kind's. -/
theorem goodCodes_kind {x : Exchange} {n : Nat} (h : n ∈ goodCodes x) : ∃ k : ReplyKind, replyKind n = some k := by
  cases x <;> simp only [goodCodes, List.mem_cons, List.not_mem_nil, or_false] at h
  · rcases h with rfl | rfl | rfl <;> exact ⟨_, rfl⟩
  · rcases h with rfl | rfl | rfl <;> exact ⟨_, rfl⟩
  · subst h
    exact ⟨_, rfl⟩

/-- The lengths a kind code allows (R55, check 4). -/
def LengthFits (code len : Nat) : Prop := (code ≤ 9 → len ≤ 48) ∧ (code = 14 → len = 3) ∧ (10 ≤ code → code ≤ 13 → len = 0)

theorem lengthAllowed_iff (k : ReplyKind) (len : Nat) : lengthAllowed k len = true ↔ LengthFits k.number len := by
  have fits : decide (len ≤ Config.maxPayload) = true ↔ len ≤ 48 := decide_eq_true_iff
  cases k <;> simp [lengthAllowed, fits, LengthFits, ReplyKind.number]

/-- A reply's ADDRESS byte is its station's with the direction bit set (R4). -/
theorem direction_bit (b : Byte) : b.getLsbD 7 = decide (128 ≤ b.toNat) := by
  have top : b.msb = b.getLsbD 7 := BitVec.msb_eq_getLsbD_last b
  rw [← top, BitVec.msb_eq_decide]

section
variable {x : Exchange} {a : Nat} {f : Framer}

theorem headerFault_foreign (low : a ≤ 127) (other : f.hdrAddress.toNat ≠ 128 + a) : headerFault x a f = some .foreignAddress := by
  unfold headerFault
  rw [direction_bit]
  by_cases station : 128 ≤ f.hdrAddress.toNat
  · rw [if_neg (by simpa using station), if_pos (by omega)]
  · rw [if_pos (by simpa using station)]

section
variable (mine : f.hdrAddress.toNat = 128 + a)
include mine

theorem headerFault_mine (low : a ≤ 127) : headerFault x a f = match replyKind (kindOf f.hdrKindTag) with
    | none => some .unexpectedKind
    | some k =>
      if answers x k = false then some .unexpectedKind
      else if lengthAllowed k f.hdrLength.toNat = false then some .unexpectedKind
      else none := by
  unfold headerFault
  rw [direction_bit, if_neg (by simp [mine]), if_neg (by omega)] <;> rfl

theorem headerFault_unexpected (low : a ≤ 127)
    (bad : kindOf f.hdrKindTag ∉ goodCodes x ∨ ¬LengthFits (kindOf f.hdrKindTag) f.hdrLength.toNat) :
    headerFault x a f = some .unexpectedKind := by
  rw [headerFault_mine mine low]
  cases kind : replyKind (kindOf f.hdrKindTag) with
  | none => rfl
  | some k =>
    dsimp only
    rw [number_of_replyKind kind, ← answers_iff, ← lengthAllowed_iff] at bad
    rcases bad with unanswered | unfit
    · rw [if_pos (Bool.eq_false_iff.2 unanswered)]
    · rw [if_pos (Bool.eq_false_iff.2 unfit), ite_self]

theorem headerFault_good (low : a ≤ 127) (good : kindOf f.hdrKindTag ∈ goodCodes x)
    (fits : LengthFits (kindOf f.hdrKindTag) f.hdrLength.toNat) : headerFault x a f = none := by
  obtain ⟨k, kind⟩ := goodCodes_kind good
  rw [number_of_replyKind kind, ← answers_iff] at good
  rw [number_of_replyKind kind, ← lengthAllowed_iff] at fits
  rw [headerFault_mine mine low, kind]
  dsimp only
  rw [if_neg (by rw [good]; decide), if_neg (by rw [fits]; decide)]

end

end

/-! ## The failures that lead to DRAIN (R58) -/

theorem failAttempt_framer (why : Reason) (s : State) : (failAttempt why s).framer = s.framer := by
  unfold failAttempt
  split
  · rfl
  · split <;> rfl

/-- A failure reported from DISCARD leaves the framer there. -/
theorem discardMode_failed {why : Reason} {s : State} (mode : s.framer.mode = .discard) :
    discardMode (failAttempt why s) = failAttempt why s := by
  have same : { (failAttempt why s).framer with mode := .discard } = (failAttempt why s).framer := by
    rw [failAttempt_framer, ← mode]
  rw [discardMode, same]

/-- Settles O45: the reports by the engine's state, the header by its three checks. -/
theorem reportRule : Obligations.ReportRule := by
  intro s r record
  refine ⟨fun p state => engineReport_guard record p state, fun edge window state open' => ⟨fun within => ?_, fun late => ?_⟩,
    fun state => ⟨fun low => ⟨fun other => ?_, fun mine bad => ?_, fun mine good fits => ?_⟩, fun mode => ⟨?_, ?_⟩,
      engineReport_truncated record state, fun d => ⟨fun i b poll => ?_, fun a probe => ?_⟩⟩,
    engineReport_quiet record⟩
  · rw [engineReport_lead record state open', if_pos within]
  · rw [engineReport_lead record state open', if_neg (Nat.not_le.2 late)]
    rfl
  · exact engineReport_header_bad record state (headerFault_foreign low other)
  · exact engineReport_header_bad record state (headerFault_unexpected mine low bad)
  · exact engineReport_header_good record state (headerFault_good mine low good fits)
  · rw [engineReport_overlength record state, ← discardMode_failed mode]
    rfl
  · rw [engineReport_framing record state, ← discardMode_failed mode]
    rfl
  · rw [engineReport_payload record state, poll]
    rfl
  · have stores : storePayload r.exch d s = modRecord (fun r => { r with identBytes := r.identBytes ++ [d] }) s := by rw [probe]; rfl
    rw [engineReport_payload record state, stores, modRecord, record]
    rfl

/-! ## The classification (R57, R59) -/

theorem tagOf_eq (b : Byte) : b.extractLsb' 0 4 = tagOf b := (BitVec.setWidth_eq_extractLsb' (by decide)).symm

section
variable {s : State} {r : InFlight}

theorem classify_crc (k : ReplyKind) : classify r k false s = some .crcError := rfl

/-- The delivery number that an answer must carry (R57, check 2). -/
theorem classify_answer {k : ReplyKind} (answer : k = .accept ∨ k = .busy ∨ k = .refuse) {sent : BitVec 4} (tag : r.tag = some sent) :
    classify r k true s =
      if (tagOf s.framer.hdrKindTag).extractLsb' 0 3 = sent.extractLsb' 0 3 then none else some .tagMismatch := by
  have number : (r.tag.map numOf = some (numOf (tagOf s.framer.hdrKindTag))) =
      ((tagOf s.framer.hdrKindTag).extractLsb' 0 3 = sent.extractLsb' 0 3) := by
    rw [tag, numOf_eq, numOf_eq, Option.map_some, Option.some.injEq]
    exact propext eq_comm
  rcases answer with rfl | rfl | rfl <;> simp only [classify, number, Bool.true_eq_false, if_false]

theorem classify_packed {i : EntryIx} {b : BufIx} (poll : r.exch = .poll i b) : classify r .packedReport true s =
    if s.framer.hdrLength.toNat % 2 = 1 then some .badPacking
    else if 48 < (expand s.pool.buffers[b].payload).length then some .overlength
    else none := by
  have carried : replyPayload r.exch s = s.pool.buffers[b].payload := by rw [poll]; rfl
  have classified : classify r .packedReport true s =
      if s.framer.hdrLength.toNat % 2 = 1 then some .badPacking
      else if 48 < expandedLength (replyPayload r.exch s) then some .overlength
      else none := rfl
  rw [classified, carried, expandedLength_eq]

end

/-- A code in the range of the station kinds is one of them. -/
theorem replyKind_inRange {n : Nat} (low : 8 ≤ n) (high : n ≤ 14) : ∃ k : ReplyKind, replyKind n = some k := by
  interval_cases n <;> exact ⟨_, rfl⟩

/-- Settles O46: the kind, its check, and the good end of its exchange. -/
theorem classificationRule : Obligations.ClassificationRule := by
  intro s r record state
  dsimp only
  rw [tagOf_eq]
  have kind {n : Nat} (k : ReplyKind) (h : s.framer.hdrKindTag.toNat / 16 = n) (named : replyKind n = some k) :
      replyKind (kindOf s.framer.hdrKindTag) = some k := by rw [kindOf, h]; exact named
  refine ⟨fun low high => ?_, fun i b poll => ⟨fun quiet => ?_, fun report => ?_, fun packed odd => ?_, fun packed even long => ?_,
    fun packed even fits => ?_⟩, fun i b sent deliver tag low high => ⟨fun other => ?_, fun same => ⟨fun accept => ?_, fun busy => ?_,
      fun refuse => ?_⟩⟩, fun a t h l probe bytes ident => ?_⟩
  · obtain ⟨k, named⟩ := replyKind_inRange low high
    exact engineReport_failed record state (kind k rfl named) (classify_crc k)
  · rw [engineReport_good record state (kind .quiet quiet rfl) rfl (by rw [poll]; rfl), goodEnd, poll]
    rfl
  · rw [engineReport_good record state (kind .report report rfl) rfl (by rw [poll]; rfl), goodEnd, poll]
    rfl
  · exact engineReport_failed record state (kind .packedReport packed rfl) ((classify_packed poll).trans (if_pos odd))
  · refine engineReport_failed record state (kind .packedReport packed rfl) ((classify_packed poll).trans ?_)
    rw [if_neg (by omega), if_pos long]
  · have clean : classify r .packedReport true s = none := by
      rw [classify_packed poll, if_neg (by omega), if_neg (Nat.not_lt.2 fits)]
    rw [engineReport_good record state (kind .packedReport packed rfl) clean (by rw [poll]; rfl), goodEnd, poll]
    rfl
  · have answered : ∃ k : ReplyKind, replyKind (kindOf s.framer.hdrKindTag) = some k ∧ (k = .accept ∨ k = .busy ∨ k = .refuse) := by
      have code : s.framer.hdrKindTag.toNat / 16 = 11 ∨ s.framer.hdrKindTag.toNat / 16 = 12 ∨ s.framer.hdrKindTag.toNat / 16 = 13 := by omega
      rcases code with h | h | h
      · exact ⟨_, kind .accept h rfl, .inl rfl⟩
      · exact ⟨_, kind .busy h rfl, .inr (.inl rfl)⟩
      · exact ⟨_, kind .refuse h rfl, .inr (.inr rfl)⟩
    obtain ⟨k, named, answer⟩ := answered
    exact engineReport_failed record state named ((classify_answer answer tag).trans (if_neg other))
  · rw [engineReport_good record state (kind .accept accept rfl) ((classify_answer (.inl rfl) tag).trans (if_pos same))
      (by rw [deliver]; rfl), goodEnd, deliver]
    rfl
  · rw [engineReport_good record state (kind .busy busy rfl) ((classify_answer (.inr (.inl rfl)) tag).trans (if_pos same))
      (by rw [deliver]; rfl), goodEnd, deliver]
    rfl
  · rw [engineReport_good record state (kind .refuse refuse rfl) ((classify_answer (.inr (.inr rfl)) tag).trans (if_pos same))
      (by rw [deliver]; rfl), goodEnd, deliver]
    rfl
  · rw [engineReport_good record state (kind .ident ident rfl) rfl (by rw [probe]; rfl), goodEnd, probe, bytes]
    rfl

/-! ## Failed attempts and the decision (R60 to R62) -/

/-- The failed-attempt count of an entry that is not RETIRING (R26). -/
theorem countFailedAttempt_table (i : EntryIx) (s : State) : (countFailedAttempt i s).table =
    if s.table[i].state = .retiring then s.table
    else s.table.set i { s.table[i] with failCount := min 65535 (s.table[i].failCount + 1) } := by
  rw [countFailedAttempt, modEntry_eq]
  dsimp only
  split
  · exact Vector.set_getElem_self _
  · rw [satInc_eq_min]

theorem countFailedAttempt_eq (i : EntryIx) (s : State) : countFailedAttempt i s = { s with
    table := if s.table[i].state = .retiring then s.table
      else s.table.set i { s.table[i] with failCount := min 65535 (s.table[i].failCount + 1) } } := by
  rw [← countFailedAttempt_table]
  rfl

section
variable {s : State} {r : InFlight} (record : s.engine.record = some r)
include record

/-- The record after a failed attempt names the reason. -/
theorem modRecord_failed (why : Reason) : modRecord (fun x => { x with lastFailure := some why }) s =
    { s with engine := { s.engine with record := some { r with lastFailure := some why } } } := by
  rw [modRecord, record]
  rfl

/-- What a failed attempt does for each kind of exchange (R60, R120). -/
theorem failAttempt_eq (why : Reason) :
    let s1 : State := { s with engine := { s.engine with record := some { r with lastFailure := some why } } }
    failAttempt why s = match r.exch with
      | .poll i b => modBuffer b (fun y => { y with payload := [] }) (countFailedAttempt i s1)
      | .deliver i _ => countFailedAttempt i s1
      | .probe _ => s1
      | .broadcast _ => s1 := by
  unfold failAttempt
  simp only [record]
  rw [modRecord_failed record] <;> rfl

/-- SETTLE for another attempt with the record that it is given (R61, R159). -/
theorem enterSettle_eq (f : InFlight → InFlight) : enterSettle (modRecord f (stopTimers s)) = { s with
    engine := { s.engine with state := .settle, record := some (f r), windowEnd := none, takeLimit := none, drainLimit := none }
    line := { s.line with quiet := some {
        quietAt := s.now + s.line.cfg.lsettle * (20 * Config.halfBit s.line.cfg.lrate)
        babbleAt := s.now + 64 * (20 * Config.halfBit s.line.cfg.lrate) } } } := by
  have noted : (stopTimers s).engine.record.map f = some (f r) := by
    change s.engine.record.map f = _
    rw [record]
    rfl
  rw [modRecord, noted]
  rfl

theorem decision_probe {a : Nat} {why : Reason} (probe : r.exch = .probe a) (failure : r.lastFailure = some why) :
    decision s = endExchange (sweepFailure a why (stopTimers s)) := by
  have same : (stopTimers s).engine.record = some r := record
  simp only [decision, decide60, same, probe, failure, Option.getD_some]

theorem decision_broadcast {b : BufIx} (all : r.exch = .broadcast b) : decision s = enterSettle (modRecord id (stopTimers s)) := by
  have same : (stopTimers s).engine.record = some r := record
  have kept : modRecord id (stopTimers s) = stopTimers s := by rw [modRecord, Option.map_id, id]
  rw [kept]
  simp only [decision, decide60, same, all]

theorem decision_cancelled {i : EntryIx} {b : BufIx} (deliver : r.exch = .deliver i b) (marked : s.pool.buffers[b].mark = .cancelPending) :
    decision s = endNotice (abandon .cancel true (stopTimers s)) := by
  have same : (stopTimers s).engine.record = some r := record
  have still : (stopTimers s).pool.buffers[b].mark = .cancelPending := marked
  simp only [decision, decide60, same, deliver, if_pos still, withdraw]

/-- A POLL, and a DELIVER whose message is not to be cancelled, are decided by the retries left (R60, steps 3 to 5). -/
theorem decision_target {i : EntryIx} {b : BufIx}
    (target : r.exch = .poll i b ∨ r.exch = .deliver i b ∧ s.pool.buffers[b].mark ≠ .cancelPending) :
    decision s = decideRetry i r (stopTimers s) := by
  have same : (stopTimers s).engine.record = some r := record
  rcases target with poll | ⟨deliver, unmarked⟩
  · simp only [decision, decide60, same, poll]
  · have still : (stopTimers s).pool.buffers[b].mark ≠ .cancelPending := unmarked
    simp only [decision, decide60, same, deliver, if_neg still]

end

section
variable {t : State} {r : InFlight} {i : EntryIx}

theorem decideRetry_retiring (left : r.attempt ≤ t.params.retries) (retiring : t.table[i].state = .retiring) :
    decideRetry i r t = endNotice (abandon .retire true t) := by
  rw [decideRetry, if_pos left, if_pos retiring, withdraw]

theorem decideRetry_again (left : r.attempt ≤ t.params.retries) (staying : t.table[i].state ≠ .retiring) :
    decideRetry i r t = enterSettle (modRecord (fun x => { x with attempt := x.attempt + 1 }) t) := by
  rw [decideRetry, if_pos left, if_neg staying, retry]

theorem decideRetry_failed (spent : t.params.retries < r.attempt) : decideRetry i r t = failedEnd r.exch t := by
  rw [decideRetry, if_neg (Nat.not_le.2 spent)]

end

/-- Settles O47: the failed attempt by kind, and the six ways of the decision. -/
theorem failureRule : Obligations.FailureRule := by
  intro s r record
  refine ⟨fun why => ⟨fun i b poll => ?_, fun i b deliver => ?_, fun a probe => ?_, fun b all => ?_⟩, fun b all => ?_,
    fun a why probe failure => decision_probe record probe failure,
    fun i b deliver marked => decision_cancelled record deliver marked, fun i target => ⟨fun left retiring => ?_,
      fun left staying => ?_, fun spent => ⟨fun b poll => ?_, fun b deliver => ⟨fun retiring => ?_, fun staying => ?_⟩⟩⟩⟩
  · simp only [failAttempt_eq record, poll, countFailedAttempt_eq]
    rfl
  · simp only [failAttempt_eq record, deliver, countFailedAttempt_eq]
  · simp only [failAttempt_eq record, probe]
  · simp only [failAttempt_eq record, all]
  · rw [decision_broadcast record all, enterSettle_eq record]
    rfl
  all_goals obtain ⟨b', target⟩ := target
  all_goals rw [decision_target record target]
  · exact decideRetry_retiring (t := stopTimers s) left retiring
  · rw [decideRetry_again (t := stopTimers s) left staying, enterSettle_eq record]
  all_goals rw [decideRetry_failed (t := stopTimers s) spent]
  · rw [poll]
    rfl
  · have goes : failedEnd r.exch (stopTimers s) = endExchange (failedOutcome i (stopTimers s)) := by
      rw [deliver, failedEnd, if_pos (by exact retiring)]
    rw [goes]
    rfl
  · have goes : failedEnd r.exch (stopTimers s) = endExchange (failedOutcome i (setMark b .queued (stopTimers s))) := by
      rw [deliver, failedEnd, if_neg (by exact staying)]
    rw [goes]
    rfl

end Sys2Proof.Machine

/-! SUPPORT. The line framer: start edges, characters outside a frame, the gap check and the engine's limits, the babble fault and the
pace timer, with the proofs of their statements. -/

namespace Sys2Proof.Machine

/-- A step whose effect is known, taken by a part that is not held in reset (R189). -/
theorem next_act {f : State → State} {s t : State} (live : s.port.inReset = false) (h : f s = t) :
    (.next (act f s) : Host.Outcome State Fault Refusal) = .next (finish t) := by
  rw [act_live live, h]

/-! ## Notices and counts (R19, R20, R160) -/

/-- An activity notice moves the quiet deadline of a request that is pending (R160). -/
theorem activityNotice_eq (s : State) : activityNotice s = { s with line := { s.line with
    quiet := s.line.quiet.map fun q => { q with quietAt := s.now + s.line.cfg.lsettle * (20 * Config.halfBit s.line.cfg.lrate) } } } := by
  unfold activityNotice
  split
  · next quiet => rw [quiet, Option.map_none, ← quiet]
  · next q quiet =>
    rw [quiet, Option.map_some]
    rfl

theorem activityNotice_none {s : State} (quiet : s.line.quiet = none) : activityNotice s = s := by rw [activityNotice, quiet]

theorem activityNotice_some {s : State} {q : Quiet} (quiet : s.line.quiet = some q) :
    activityNotice s = { s with line := { s.line with
      quiet := some { q with quietAt := s.now + s.line.cfg.lsettle * (20 * Config.halfBit s.line.cfg.lrate) } } } := by
  rw [activityNotice, quiet]
  rfl

theorem watchCharacter_eq (s : State) : watchCharacter s = { s with line := { s.line with
    stray := min 65535 (s.line.stray + 1)
    quiet := s.line.quiet.map fun q => { q with quietAt := s.now + s.line.cfg.lsettle * (20 * Config.halfBit s.line.cfg.lrate) } } } := by
  rw [watchCharacter, activityNotice_eq, countStray, satInc_eq_min]

theorem countNoise_eq (s : State) : countNoise s = { s with line := { s.line with noise := min 65535 (s.line.noise + 1) } } := by
  rw [countNoise, satInc_eq_min]

/-! ## Start edges (R2) -/

theorem startEdge_taken (wait : Nat) {s : State} (looking : s.framer.rx = .idle) (hears : s.framer.mode ≠ .echo) :
    startEdge wait s = { s with
      now := s.now + wait
      framer := { s.framer with rx := .assembling (s.now + wait) false, gap := none } } := by
  have time : max s.now (s.now + wait) = s.now + wait := Nat.max_eq_right (Nat.le_add_right _ _)
  rw [startEdge, if_pos ⟨looking, hears⟩]
  simp only [modFramer, advanceTo, time]

theorem startEdge_dropped (wait : Nat) {s : State} (deaf : s.framer.rx ≠ .idle ∨ s.framer.mode = .echo) : startEdge wait s = s :=
  if_neg fun ⟨looking, hears⟩ => deaf.elim (· looking) hears

section
variable {s : State} {edge : Nat} (rx : s.framer.rx = .assembling edge false)
include rx

/-- High at the middle of the start bit is a false start (R2). -/
theorem startEdgeCheck_high : startEdgeCheck true s = { s with
    now := max s.now (edge + Config.halfBit s.line.cfg.lrate), framer := { s.framer with rx := .idle } } := by
  rw [startEdgeCheck, rx]
  rfl

theorem startEdgeCheck_low :
    let passed := { s with
      now := max s.now (edge + Config.halfBit s.line.cfg.lrate), framer := { s.framer with rx := .assembling edge true } }
    startEdgeCheck false s = if s.framer.mode = .watch then activityNotice passed else passed := by
  rw [startEdgeCheck, rx]
  rfl

end

/-- Settles O36: by the receiver for an edge, and by the level, the mode and the request for its check. -/
theorem startEdgeRule : Obligations.StartEdgeRule := by
  unfold Obligations.StartEdgeRule
  intro s live
  refine ⟨fun wait looking hears => next_act live (startEdge_taken wait looking hears),
    fun wait deaf => next_act live (startEdge_dropped wait deaf), fun edge rx =>
    ⟨next_act live (startEdgeCheck_high rx), fun unheard => next_act live ?_, fun q watch quiet => next_act live ?_⟩⟩
  · rw [startEdgeCheck_low rx]
    split
    · next watch => exact activityNotice_none (unheard.resolve_left (· watch))
    · rfl
  · rw [startEdgeCheck_low rx, if_pos watch]
    exact activityNotice_some quiet

/-! ## Characters outside a frame (R15, R18, R19) -/

section
variable {s : State} {edge : Nat} {checked : Bool} (rx : s.framer.rx = .assembling edge checked)
include rx

/-- A character in assembly is complete at its stop-bit sample, 9.5 bit times after its start edge (R2). -/
theorem completeIn_eq {m : RxMode} (stop : Bool) (f : Nat → State → State) (mode : s.framer.mode = m) :
    let time := max s.now (edge + 19 * Config.halfBit s.line.cfg.lrate)
    completeIn m stop f s = f edge { s with now := time, framer := { s.framer with rx := if stop then .idle else .low time } } := by
  rw [completeIn, rx]
  exact if_pos mode

end

theorem huntCharacter_noise {data : Byte} {stop : Bool} (edge : Nat) (s : State) (noLead : data ≠ 0xB4#8 ∨ stop = false) :
    huntCharacter edge data stop s = countNoise s :=
  if_neg fun ⟨lead, high⟩ => noLead.elim (· lead) fun low => Bool.noConfusion (low.symm.trans high)

/-! ## Breaks (R2) -/

section
variable {s : State} {since : Nat} (rx : s.framer.rx = .low since)
include rx

/-- One character time of RXD low after a framing error is a break character, handled in the mode in force (R2). -/
theorem breakCharacter_eq :
    let time := max s.now (since + 20 * Config.halfBit s.line.cfg.lrate)
    let on := { s with now := time, framer := { s.framer with rx := .low time } }
    breakCharacter s = match s.framer.mode with
      | .watch => watchCharacter on
      | .echo => s
      | .hunt => countNoise on
      | .collect => collectCharacter 0x00#8 false on
      | .discard => discardCharacter false on := by
  rw [breakCharacter, rx]
  rfl

/-- RXD high for one bit time: the receiver looks for a start edge again, and the gap has run since RXD rose (R2, R17). -/
theorem receiverRearm_eq (wait : Nat) : receiverRearm wait s = { s with
    now := s.now + wait
    framer := { s.framer with
      rx := .idle
      gap := if s.framer.mode = .collect ∨ s.framer.mode = .discard then
          some (s.now + wait - 2 * Config.halfBit s.line.cfg.lrate + s.line.cfg.lgap * (20 * Config.halfBit s.line.cfg.lrate))
        else s.framer.gap } } := by
  have time : max s.now (s.now + wait) = s.now + wait := Nat.max_eq_right (Nat.le_add_right _ _)
  rw [receiverRearm, rx]
  simp only [modFramer, advanceTo, time]
  rfl

end

/-- Settles O37: a character by the mode it completes in, a break character by the mode in force. -/
theorem charactersOutsideAFrame : Obligations.CharactersOutsideAFrame := by
  unfold Obligations.CharactersOutsideAFrame
  intro s live
  refine ⟨fun edge checked data stop rx => ⟨fun watch => next_act live ?_, fun hunt noLead => next_act live ?_,
    fun discard => next_act live ?_⟩, fun since rx => ⟨fun watch => next_act live ?_, fun hunt => next_act live ?_,
    fun collect => next_act live ?_, fun discard => next_act live ?_, fun wait => next_act live (receiverRearm_eq rx wait)⟩⟩
  · rw [completeIn_eq rx stop _ watch, watchCharacter_eq]
  · rw [completeIn_eq rx stop _ hunt, huntCharacter_noise _ _ noLead, countNoise_eq]
  · exact completeIn_eq rx stop _ discard
  · simp only [breakCharacter_eq rx, watch]
    exact watchCharacter_eq _
  · simp only [breakCharacter_eq rx, hunt]
    exact countNoise_eq _
  · simp only [breakCharacter_eq rx, collect]
    rfl
  · simp only [breakCharacter_eq rx, discard]
    rfl

/-! ## The gap check and the engine's limits (R17, R54, R58) -/

/-- The gap check's expiry by the receive mode (R17). -/
theorem gapExpiry_eq {s : State} {t : Nat} (gap : s.framer.gap = some t) :
    let quiet := { s with now := max s.now t, framer := { s.framer with mode := .watch, gap := none } }
    gapExpiry s = match s.framer.mode with
      | .collect => engineReport .truncated quiet
      | .discard => engineReport .quietAfterDiscard quiet
      | _ => s := by
  rw [gapExpiry, gap]
  rfl

/-- A failed attempt reads and changes nothing of the framer's record. -/
theorem failAttempt_modFramer (why : Reason) (f : Framer → Framer) (s : State) :
    failAttempt why (modFramer f s) = modFramer f (failAttempt why s) := by
  cases record : s.engine.record with
  | none => simp only [failAttempt, modFramer, record]
  | some r =>
    simp only [failAttempt, modFramer, record]
    cases r.exch <;> rfl

/-- Settles O42: by the gap timer and the mode, and by the engine's state and its limit. -/
theorem limitsRule : Obligations.LimitsRule := by
  unfold Obligations.LimitsRule
  intro s live
  refine ⟨fun gap => next_act live ?_, fun t gap => ⟨fun collect => next_act live ?_, fun discard => next_act live ?_⟩,
    fun t state limit => next_act live ?_, fun t state limit => next_act live ?_⟩
  · rw [gapExpiry, gap]
  · simp only [gapExpiry_eq gap, collect]
  · simp only [gapExpiry_eq gap, discard]
  · rw [takeLimit, state, limit]
    exact congrArg decision (failAttempt_modFramer .noReply _ _).symm
  · rw [drainLimit, state, limit]
    rfl

/-! ## The babble fault and the pace timer (R82, R158, R161) -/

/-- The fault act on a line that runs or drains (R158). -/
theorem lineFault_eq (detail : Word) (rxdHigh : Bool) {s : State} (on : s.line.state = .running ∨ s.line.state = .draining) :
    let cut := abandon .fault rxdHigh s
    lineFault detail rxdHigh s = post { code := .lineFault, detail := detail }
      { cut with line := { cut.line with state := .faulted, quiet := none } } := if_pos on

/-- Settles O44. -/
theorem faultAndPaceRule : Obligations.FaultAndPaceRule := by
  unfold Obligations.FaultAndPaceRule
  refine ⟨fun s q live quiet _ => next_act live ?_, fun detail rxdHigh s on => ?_,
    fun s t live timer => ⟨fun waits => next_act live ?_, fun elsewhere => next_act live ?_⟩⟩
  · rw [babbleDeadline, quiet]
    rfl
  · have record : ({ code := .lineFault, detail := detail } : Event) = plainEvent .lineFault 0 0#8 detail.toNat := by
      simp [plainEvent]
    rw [lineFault_eq detail rxdHigh on, record]
    rfl
  · simp only [paceExpiry, timer]
    exact if_pos waits
  · simp only [paceExpiry, timer]
    exact if_neg elsewhere

end Sys2Proof.Machine

/-! SUPPORT. The CRC bit by bit and the collection of a frame, with the proof of its statement. -/

namespace Sys2Proof.Machine

/-! ## The CRC (R7) -/

/-- One bit through the CRC: the register's top bit combined with the bit decides whether the polynomial is applied (R7). -/
def crcBit (c : Word) (bit : Bool) : Word := if c.getLsbD 15 != bit then (c <<< 1) ^^^ 0x1021#16 else c <<< 1

/-- The shift takes the top bit of what was combined into the register; the rest of it moves up by one. -/
theorem crcShift_xor (c w : Word) : crcShift (c ^^^ w) = crcBit c (w.getLsbD 15) ^^^ (w <<< 1) := by
  have top : (c ^^^ w).msb = (c.getLsbD 15 != w.getLsbD 15) := by
    rw [BitVec.msb_eq_getLsbD_last, BitVec.getLsbD_xor]
  rw [crcShift, crcBit, top, BitVec.shiftLeft_xor_distrib]
  split
  · rw [BitVec.xor_assoc, BitVec.xor_comm (w <<< 1), ← BitVec.xor_assoc]
  · rfl

/-- A word combined into the register and then shifted is its top bits taken one by one, and the rest moved up. -/
theorem crcShift_iterate (c w : Word) (n : Nat) (short : n ≤ 16) :
    crcShift^[n] (c ^^^ w) = (List.range n).foldl (fun r j => crcBit r (w.getLsbD (15 - j))) c ^^^ (w <<< n) := by
  induction n with
  | zero => simp
  | succ n ih =>
    have bit : (w <<< n).getLsbD 15 = w.getLsbD (15 - n) := by
      simp only [BitVec.getLsbD_shiftLeft, Nat.not_lt.2 (Nat.le_of_lt_succ short)]
      simp
    rw [Function.iterate_succ_apply', ih (by omega), crcShift_xor, bit, ← BitVec.shiftLeft_add, List.range_succ, List.foldl_concat]

theorem crcByte_bits (crc : Word) (data : Byte) : crcByte crc data = [7, 6, 5, 4, 3, 2, 1, 0].foldl (fun (c : Word) (k : Nat) =>
    if c.getLsbD 15 != data.getLsbD k then (c <<< 1) ^^^ 0x1021#16 else c <<< 1) crc := by
  have gone : byteWord data <<< 8 <<< 8 = 0#16 := by
    rw [← BitVec.shiftLeft_add]
    exact BitVec.shiftLeft_eq_zero (Nat.le_refl 16)
  have bits : ∀ j < 8, (byteWord data <<< 8).getLsbD (15 - j) = data.getLsbD (7 - j) := by
    intro j short
    have place : 15 - j - 8 = 7 - j := by omega
    rw [BitVec.getLsbD_shiftLeft, place, byteWord, BitVec.getLsbD_setWidth, decide_eq_true (by omega : 15 - j < 16),
      decide_eq_false (by omega : ¬15 - j < 8), decide_eq_true (by omega : 7 - j < 16)]
    simp only [Bool.not_false, Bool.true_and]
  calc crcByte crc data = crcShift^[8] (crc ^^^ (byteWord data <<< 8)) := rfl
    _ = (List.range 8).foldl (fun r j => crcBit r ((byteWord data <<< 8).getLsbD (15 - j))) crc := by
      rw [crcShift_iterate _ _ 8 (by omega), gone, BitVec.xor_zero]
    _ = (List.range 8).foldl (fun r j => crcBit r (data.getLsbD (7 - j))) crc :=
      List.foldl_ext _ _ _ fun r j short => by rw [bits j (List.mem_range.1 short)]
    _ = _ := rfl

/-! ## The collection of a frame (R15, R16) -/

theorem huntCharacter_lead (edge : Nat) (s : State) : huntCharacter edge 0xB4#8 true s = engineReport (.leadTaken edge)
    { s with framer := { s.framer with
      mode := .collect
      crcCheck := 0xFFFF#16
      hdrAddress := 0#8
      hdrKindTag := 0#8
      hdrLength := 0#8
      taken := 1
      gap := some (s.now + s.line.cfg.lgap * (20 * Config.halfBit s.line.cfg.lrate)) } } := if_pos ⟨rfl, rfl⟩

section
variable {s : State} (data : Byte)

theorem collectCharacter_taken : collectCharacter data true s = collectByte data { s with framer := { s.framer with
    gap := some (s.now + s.line.cfg.lgap * (20 * Config.halfBit s.line.cfg.lrate)) } } := rfl

theorem collectByte_address (turn : s.framer.taken = 1) :
    collectByte data s = modFramer (fun g => { collected data g with hdrAddress := data }) s := if_pos turn.le

theorem collectByte_kind (turn : s.framer.taken = 2) :
    collectByte data s = modFramer (fun g => { collected data g with hdrKindTag := data }) s := by
  simp only [collectByte, turn, if_true, Nat.reduceLeDiff, if_false]

theorem collectByte_length (turn : s.framer.taken = 3) :
    collectByte data s = if 48 < data.toNat then
        engineReport .overlength (modFramer (fun g => { collected data g with hdrLength := data, mode := .discard }) s)
      else engineReport .header (modFramer (fun g => { collected data g with hdrLength := data }) s) := by
  simp only [collectByte, turn, if_true, Nat.reduceLeDiff, if_false, Nat.reduceEqDiff]
  rfl

section
variable (header : 4 ≤ s.framer.taken)
include header

/-- Behind the header a byte is payload, or one of the two CRC bytes (R16). -/
theorem collectByte_body : collectByte data s =
    if s.framer.taken < 4 + s.framer.hdrLength.toNat then engineReport (.payloadByte data) (modFramer (collected data) s)
    else if s.framer.taken = 4 + s.framer.hdrLength.toNat then
      modFramer (fun g => { g with crcHigh := data, taken := g.taken + 1 }) s
    else engineReport (.complete (decide (s.framer.crcHigh ++ data = s.framer.crcCheck)))
      (modFramer (fun g => { g with taken := g.taken + 1, mode := .watch, gap := none }) s) := by
  rw [collectByte]
  dsimp only
  rw [if_neg (by omega), if_neg (by omega), if_neg (by omega)]
  rfl

theorem collectByte_payload (turn : s.framer.taken < 4 + s.framer.hdrLength.toNat) :
    collectByte data s = engineReport (.payloadByte data) (modFramer (collected data) s) := by
  rw [collectByte_body data header, if_pos turn]

theorem collectByte_crcHigh (turn : s.framer.taken = 4 + s.framer.hdrLength.toNat) :
    collectByte data s = modFramer (fun g => { g with crcHigh := data, taken := g.taken + 1 }) s := by
  rw [collectByte_body data header, if_neg (by omega), if_pos turn]

theorem collectByte_crcLow (turn : s.framer.taken = 5 + s.framer.hdrLength.toNat) :
    collectByte data s = engineReport (.complete (decide (s.framer.crcHigh ++ data = s.framer.crcCheck)))
      (modFramer (fun g => { g with taken := g.taken + 1, mode := .watch, gap := none }) s) := by
  rw [collectByte_body data header, if_neg (by omega), if_neg (by omega)]

end

end

/-- Settles O38: by the mode, the place in the frame and the value of LENGTH, and for the CRC by its eight shifts. -/
theorem collectionRule : Obligations.CollectionRule := by
  unfold Obligations.CollectionRule
  intro s edge checked live rx
  refine ⟨fun hunt => next_act live ?_, fun collect data => ⟨next_act live ?_, fun turn => next_act live ?_,
    fun turn => next_act live ?_, fun turn fits => next_act live ?_, fun turn long => next_act live ?_,
    fun header turn => next_act live ?_, fun header turn => next_act live ?_, fun header turn => next_act live ?_⟩, crcByte_bits⟩
  · rw [completeIn_eq rx true _ hunt, huntCharacter_lead]
    rfl
  all_goals rw [completeIn_eq rx _ _ collect]
  · rfl
  · exact collectByte_address data turn
  · exact collectByte_kind data turn
  · rw [collectCharacter_taken, collectByte_length data (by exact turn), if_neg (Nat.not_lt.2 fits)]
    rfl
  · rw [collectCharacter_taken, collectByte_length data (by exact turn), if_pos long]
    rfl
  · exact collectByte_payload data header turn
  · exact collectByte_crcHigh data header turn
  · exact collectByte_crcLow data (by exact (by decide : 4 ≤ 5).trans header) turn

end Sys2Proof.Machine

/-! SUPPORT. The transmission's echo, its ends and the release of the line, with the proofs of their statements. -/

namespace Sys2Proof.Machine

/-! ## The echo comparison (R13, R14, R163, R164) -/

theorem raiseContention_on {s : State} (on : s.line.state = .running ∨ s.line.state = .draining) :
    raiseContention s = { s with line := { s.line with contCount := min 7 (s.line.contCount + 1) } } := by
  rw [raiseContention, if_pos on, satInc_eq_min]

/-- A failed attempt reads and changes nothing of the line's record. -/
theorem failAttempt_raised (why : Reason) (n : Nat) (s : State) :
    failAttempt why { s with line := { s.line with contCount := n } } =
      { failAttempt why s with line := { s.line with contCount := n } } := by
  cases record : s.engine.record with
  | none => simp only [failAttempt, record]
  | some r =>
    simp only [failAttempt, record]
    cases r.exch <;> rfl

theorem failAttempt_line (why : Reason) (s : State) : (failAttempt why s).line = s.line := by
  unfold failAttempt
  split
  · rfl
  · split <;> rfl

/-- Line control's count of a contention and the engine's failed attempt may come in either order (log 15). -/
theorem raiseContention_failAttempt (why : Reason) (s : State) :
    raiseContention (failAttempt why s) = failAttempt why (raiseContention s) := by
  unfold raiseContention
  rw [failAttempt_line]
  split
  · exact (failAttempt_raised why _ s).symm
  · rfl

section
variable {s : State} {x : Transmission} {sent : Byte} (sending : s.framer.tx = some x) (compares : x.chars[x.compared]? = some sent)
  (checks : x.echoCheck = true) (clean : x.contended = false)
include sending compares checks clean

/-- The echo comparison, at the sample of the stop bit of the character it compares (R13). -/
theorem echoComparison_eq (start : Bool) (data : Byte) (stop first : Bool) :
    let t := { s with now := max s.now (x.begun + 2 * Config.halfBit s.line.cfg.lrate +
      (x.compared + 1) * (20 * Config.halfBit s.line.cfg.lrate) - Config.halfBit s.line.cfg.lrate) }
    echoComparison start data stop first s =
      if echoClean sent start data stop then { t with framer := { s.framer with tx := some { x with compared := x.compared + 1 } } }
      else contention x stop first t := by
  rw [echoComparison, sending]
  dsimp only
  rw [compares]
  exact if_pos ⟨checks, clean⟩

end

theorem echoClean_same (sent : Byte) : echoClean sent false sent true = true := by simp [echoClean]

theorem echoClean_other {sent data : Byte} {start stop : Bool} (other : start = true ∨ data ≠ sent ∨ stop = false) :
    echoClean sent start data stop = false := by
  rcases other with rfl | differs | rfl <;> simp [echoClean, *]

section
variable {s : State} (x : Transmission) (on : s.line.state = .running ∨ s.line.state = .draining)
include on

/-- A contention on a line that runs or drains: below CONTLIM the attempt fails, at CONTLIM the line faults (R163, R164). -/
theorem contention_eq (stop first : Bool) :
    let raised := min 7 (s.line.contCount + 1)
    let cut := { s with
      framer := { s.framer with tx := some { x with contended := true } }
      line := { s.line with contCount := raised } }
    contention x stop first s =
      if raised < s.line.cfg.contlim then failAttempt .contention cut
      else if first then lineFault 1#16 stop (failAttempt .contention cut)
      else lineFault 1#16 stop cut := by
  have counted := raiseContention_on (s := modFramer (fun f => { f with tx := some { x with contended := true } }) s) on
  rw [contention, raiseContention_failAttempt, counted]
  rfl

end

/-- Settles O39: by the echo, and for a contention by the count against CONTLIM and the order of the reports. -/
theorem echoComparisonRule : Obligations.EchoComparisonRule := by
  unfold Obligations.EchoComparisonRule
  intro s x sent live sending compares checks clean
  have compared := echoComparison_eq sending compares checks clean
  refine ⟨fun first => next_act live ?_, fun start data stop first other on => ⟨fun below => next_act live ?_,
    fun reached => ⟨next_act live ?_, next_act live ?_⟩⟩⟩
  · rw [compared, echoClean_same, if_pos rfl]
  all_goals rw [compared, echoClean_other other, if_neg (by decide), contention_eq x (by exact on)]
  · exact if_pos below
  · exact if_neg (Nat.not_lt.2 reached)
  · exact if_neg (Nat.not_lt.2 reached)

/-! ## The ends of a transmission (R10 to R14) -/

theorem contentionStop_eq {s : State} {x : Transmission} (rxdHigh : Bool) (sending : s.framer.tx = some x) (cut : x.contended = true) :
    let time := max s.now (x.begun + 2 * Config.halfBit s.line.cfg.lrate +
      (x.compared + 1) * (20 * Config.halfBit s.line.cfg.lrate))
    contentionStop rxdHigh s = decision { s with
      now := time
      framer := { s.framer with
        mode := .watch, driverEnable := false, tx := none, rx := if rxdHigh then .idle else .low time } } := by
  rw [contentionStop, sending]
  exact if_pos cut

theorem modeAfterFrame_eq (x : Exchange) : modeAfterFrame x = if x.code = 4 then .watch else .hunt := by cases x <;> rfl

theorem cleanVerdict_eq (s : State) : cleanVerdict s = { s with line := { s.line with
    contCount := if s.line.state = .running ∨ s.line.state = .draining then 0 else s.line.contCount } } := by
  unfold cleanVerdict
  split <;> rfl

theorem sentWhole_iff (x : Transmission) :
    sentWhole x = true ↔ x.contended = false ∧ (x.echoCheck = false ∨ x.compared = x.chars.length) := by
  simp [sentWhole]

section
variable {s : State} {x : Transmission} {r : InFlight} (sending : s.framer.tx = some x) (record : s.engine.record = some r)
  (whole : sentWhole x = true) (some' : x.chars ≠ [])
include sending record whole some'

/-- The end of a frame's last stop bit (R11, R53). -/
theorem frameSent_eq (rxdHigh : Bool) :
    let time := max s.now (x.begun + 2 * Config.halfBit s.line.cfg.lrate + x.chars.length * (20 * Config.halfBit s.line.cfg.lrate))
    let done := { s with
      now := time
      engine := { s.engine with state := .guard }
      framer := { s.framer with
        mode := if r.exch.code = 4 then .watch else .hunt
        tx := none
        guardEnd := some (time + s.line.cfg.lguard * Config.halfBit s.line.cfg.lrate)
        rx := if rxdHigh then .idle else .low time } }
    frameSent rxdHigh s = if x.echoCheck then cleanVerdict done else done := by
  have last : x.chars.length - 1 + 1 = x.chars.length := Nat.sub_add_cancel (List.length_pos_iff.2 some')
  rw [frameSent, sending, record]
  dsimp only
  rw [if_pos whole, charEnd, last, modeAfterFrame_eq]
  cases x.echoCheck with
  | false => rfl
  | true =>
    rw [if_pos rfl, if_pos rfl, cleanVerdict_eq, cleanVerdict_eq]
    rfl

end

/-- Settles O40: a contended character, and a whole frame with and without the echo check. -/
theorem transmissionEnds : Obligations.TransmissionEnds := by
  unfold Obligations.TransmissionEnds
  intro s x rxdHigh live sending
  refine ⟨fun cut => next_act live (contentionStop_eq rxdHigh sending cut), fun r record clean some' ends => ?_⟩
  have sent := frameSent_eq sending record ((sentWhole_iff x).2 ⟨clean, ends⟩) some' rxdHigh
  refine ⟨fun unchecked => next_act live ?_, fun checked on => next_act live ?_⟩
  · rw [sent, unchecked, if_neg (by decide)]
  · rw [sent, checked, if_pos rfl]
    exact if_pos on

/-! ## Release (R12, R53, R64, R65) -/

section
variable {s : State} {r : InFlight} (record : s.engine.record = some r)
include record

/-- The end of the guard drops DE and releases the line (R12). -/
theorem lineRelease_eq {t : Nat} (guard : s.framer.guardEnd = some t) : lineRelease s =
    released r { s with now := max s.now t, framer := { s.framer with driverEnable := false, guardEnd := none } } := by
  rw [lineRelease, guard, record]
  rfl

theorem openWindow_quiet (kept : s.engine.kept = []) :
    let window := s.now + s.line.cfg.lreply * (20 * Config.halfBit s.line.cfg.lrate)
    openWindow s = { s with engine := { s.engine with
      state := .await
      windowEnd := some window
      takeLimit := some (window + 20 * Config.halfBit s.line.cfg.lrate) } } := by
  simp only [openWindow, kept, List.foldl_nil]
  rfl

/-- A LEAD taken in GUARD is judged by its start edge (R53). -/
theorem openWindow_lead {edge : Nat} (kept : s.engine.kept = [.leadTaken edge])
    (early : edge ≤ s.now + s.line.cfg.lreply * (20 * Config.halfBit s.line.cfg.lrate)) :
    openWindow s = { s with engine := { s.engine with state := .receiving, windowEnd := none, takeLimit := none, kept := [] } } := by
  simp only [openWindow, kept, List.foldl_cons, List.foldl_nil, handleReport, record]
  exact if_pos (decide_eq_true early)

theorem retry_eq : retry s = { s with
    engine := { s.engine with state := .settle, record := some { r with attempt := r.attempt + 1 } }
    line := { s.line with quiet := some {
      quietAt := s.now + s.line.cfg.lsettle * (20 * Config.halfBit s.line.cfg.lrate)
      babbleAt := s.now + 64 * (20 * Config.halfBit s.line.cfg.lrate) } } } := by
  rw [retry, modRecord, record]
  rfl

end

theorem released_reply {r : InFlight} (answered : r.exch.code ≠ 4) (s : State) : released r s = openWindow s := by
  unfold released
  split
  · next all => exact absurd (congrArg Exchange.code all) answered
  · rfl

theorem released_broadcast {r : InFlight} {b : BufIx} (all : r.exch = .broadcast b) (s : State) :
    released r s = if r.attempt < s.line.cfg.lopt.toNat % 4 + 1 then retry s else broadcastEnd b s := by
  rw [released, all]
  rfl

/-- The end of a BROADCAST whose message is the head of the list (R65, R111, R112). -/
theorem broadcastEnd_eq {s : State} {b : BufIx} {rest : List BufIx} (head : s.pool.broadcast = b :: rest) :
    let number := s.pool.broadcastNum
    broadcastEnd b s = endNotice { (bufferFreed { s with pool := { s.pool with
        broadcast := rest
        broadcastNum := if s.pool.buffers[b].transmitted then number + 1#3 else number } }).posting
      [plainEvent .broadcastSent 127 s.pool.buffers[b].msgId number.toNat] with engine := {} } := by
  have gone : s.pool.broadcast.erase b = rest := by rw [head, List.erase_cons_head]
  rw [broadcastEnd, departBroadcast, gone, ← BitVec.ofNat_toNat]
  rfl

/-- Settles O41: by the exchange kind, the reports kept and the repeats left. -/
theorem lineReleaseRule : Obligations.LineReleaseRule := by
  unfold Obligations.LineReleaseRule
  intro s t r live guard record
  refine ⟨fun answered kept => next_act live ?_, fun edge answered kept early => next_act live ?_, fun b all =>
    ⟨fun left => next_act live ?_, fun rest spent head => next_act live ?_⟩⟩
  all_goals rw [lineRelease_eq record guard]
  · rw [released_reply answered]
    exact openWindow_quiet (by exact record) (by exact kept)
  · rw [released_reply answered]
    exact openWindow_lead (by exact record) (by exact kept) early
  · rw [released_broadcast all, if_pos (by exact left)]
    exact retry_eq (by exact record)
  · rw [released_broadcast all, if_neg (by exact Nat.not_lt.2 spent)]
    exact broadcastEnd_eq (by exact head)

end Sys2Proof.Machine

/-! SUPPORT. The transmission: the quiet deadline, the frame it sends and the level of TXD over it, with the proof of their
statement. -/

namespace Sys2Proof.Machine

/-! ## The quiet deadline (R51, R52, R159) -/

/-- The engine in SENDING at a moment, with the frame, the tag and the buffers that the transmission leaves (R11, R51, R52). -/
def sendingAt (time : Nat) (r : InFlight) (chars : List Byte) (tag : Option (BitVec 4)) (bs : Vector Buffer 24) (s : State) : State :=
  { s with
    now := time
    line := { s.line with quiet := none }
    pool := { s.pool with buffers := bs }
    engine := { s.engine with state := .sending, record := some { r with tag := tag, frame := chars } }
    framer := { s.framer with
      mode := .echo
      driverEnable := true
      tx := some {
        chars := chars
        begun := time
        compared := 0
        echoCheck := s.line.cfg.lopt.getLsbD 7
        contended := false }
      crcGen := crcOf ((chars.drop 1).take (chars.length - 3))
      rx := .idle
      gap := none } }

/-- The message of a DELIVER or BROADCAST is marked; nothing else of the part changes (R52). -/
theorem markTransmitted_eq (x : Exchange) (s : State) :
    markTransmitted x s = { s with pool := { s.pool with buffers := (markTransmitted x s).pool.buffers } } := by
  cases x <;> rfl

/-- The frame of an exchange as its target stands now (R52). -/
def frameNow (x : Exchange) (s : State) : List Byte := frameChars (frameAddress x s) x.code (tagNow x s) (framePayload x s)

section
variable {s : State} {r : InFlight} (record : s.engine.record = some r)
include record

theorem buildFrame_eq (x : Exchange) : buildFrame x s = { s with
    pool := { s.pool with buffers := (markTransmitted x s).pool.buffers }
    engine := { s.engine with record := some { r with tag := some (tagNow x s), frame := frameNow x s } } } := by
  rw [buildFrame, modRecord, record, markTransmitted_eq]
  cases x <;> rfl

theorem transmit_first (state : s.engine.state = .settleWait) :
    transmit s = beginTransmission (frameNow r.exch s) (withEngineState .sending (buildFrame r.exch s)) := by
  simp only [transmit, record, state, buildFrame_eq record]

theorem transmit_again (state : s.engine.state = .settle) :
    transmit s = beginTransmission r.frame (withEngineState .sending s) := by
  simp only [transmit, record, state]

end

section
variable {s : State} {q : Quiet} {r : InFlight} (quiet : s.line.quiet = some q) (record : s.engine.record = some r)
include quiet record

/-- A retry or repeat sends the same frame (R52). -/
theorem quietDeadline_settle (state : s.engine.state = .settle) :
    quietDeadline s = sendingAt (max s.now q.quietAt) r r.frame r.tag s.pool.buffers s := by
  simp only [quietDeadline, quiet, state]
  rw [transmit_again (by exact record) (by exact state), sendingAt, ← record]
  rfl

/-- The first transmission builds the frame from the target as it stands (R52). -/
theorem quietDeadline_first (state : s.engine.state = .settleWait) :
    quietDeadline s = sendingAt (max s.now q.quietAt) r (frameNow r.exch s) (some (tagNow r.exch s))
      (markTransmitted r.exch s).pool.buffers s := by
  simp only [quietDeadline, quiet, state]
  rw [transmit_first (by exact record) (by exact state), buildFrame_eq (by exact record)]
  obtain ⟨exch, tag, attempt, failure, frame, ident, late⟩ := r
  cases exch <;> rfl

end

/-! ## Frames and the CRC (R4, R7, R11) -/

theorem frameChars_eq (a kind : Nat) (tag : BitVec 4) (p : List Byte) :
    let covered := [BitVec.ofNat 8 a, BitVec.ofNat 8 (16 * kind + tag.toNat), BitVec.ofNat 8 p.length] ++ p
    frameChars a kind tag p = [0xB4#8, BitVec.ofNat 8 a, BitVec.ofNat 8 (16 * kind + tag.toNat), BitVec.ofNat 8 p.length] ++ p ++
      [(crcOf covered).extractLsb' 8 8, (crcOf covered).extractLsb' 0 8] := by
  dsimp only
  rw [highByte_eq, lowByte_eq]
  rfl

theorem crcOf_append (bs : List Byte) (b : Byte) : crcOf (bs ++ [b]) = crcByte (crcOf bs) b := List.foldl_concat ..

/-! ## TXD (R1, R11, R14) -/

theorem bitTime_pos (lrate : Nat) : 0 < 2 * Config.halfBit lrate := by
  have positive : 0 < Config.divisor lrate := by
    unfold Config.divisor
    split <;> decide
  unfold Config.halfBit
  omega

/-- The level of TXD in a bit of a character: its start bit, its data bits, its stop bit (R1). -/
def charBit (c : Byte) (m : Nat) : Bool :=
  match m with
  | 0 => false
  | 9 => true
  | m => c.getLsbD (m - 1)

theorem charBit_data (c : Byte) {j : Nat} (data : j < 8) : charBit c (j + 1) = c.getLsbD j := by
  unfold charBit
  split
  · omega
  · omega
  · rfl

/-- The bits sent before a moment that lies in the given bit of the given character, with the lead-in (R11). -/
theorem bitsBefore {t begun bit k m : Nat} (from' : begun + bit + k * (10 * bit) + m * bit ≤ t)
    (until' : t < begun + bit + k * (10 * bit) + (m + 1) * bit) : (t - begun) / bit = 1 + 10 * k + m := by
  have low : (1 + 10 * k + m) * bit = bit + k * (10 * bit) + m * bit := by ring
  have high : (1 + 10 * k + m + 1) * bit = bit + k * (10 * bit) + (m + 1) * bit := by ring
  exact Nat.div_eq_of_lt_le (by omega) (by omega)

/-- From the end of a number of characters on, at least their bits have been sent. -/
theorem bitsBefore_le {t begun bit k : Nat} (positive : 0 < bit) (from' : begun + bit + k * (10 * bit) ≤ t) :
    k ≤ ((t - begun) / bit - 1) / 10 := by
  have low : (1 + 10 * k) * bit = bit + k * (10 * bit) := by ring
  have bits : 1 + 10 * k ≤ (t - begun) / bit := (Nat.le_div_iff_mul_le positive).2 (by omega)
  omega

section
variable {s : State} {x : Transmission} (sending : s.framer.tx = some x)
include sending

/-- TXD by the number of bit times since the assertion of DE (R11). -/
theorem txdAt_sending (t : Nat) :
    let k := (t - x.begun) / (2 * Config.halfBit s.line.cfg.lrate)
    txdAt s t = if k = 0 then true
      else if x.contended && x.compared < (k - 1) / 10 then true
      else match x.chars[(k - 1) / 10]? with
        | none => true
        | some c => charBit c ((k - 1) % 10) := by
  rw [txdAt, sending] <;> rfl

theorem txdAt_leadIn {t : Nat} (early : t < x.begun + 2 * Config.halfBit s.line.cfg.lrate) : txdAt s t = true := by
  rw [txdAt_sending sending]
  exact if_pos (Nat.div_eq_of_lt (by have := bitTime_pos s.line.cfg.lrate; omega))

/-- The bit of a character that TXD carries, counted from its start bit (R1). -/
theorem txdAt_bit {t k m : Nat} {c : Byte} (char : x.chars[k]? = some c) (going : x.contended = true → k ≤ x.compared) (short : m < 10)
    (from' : x.begun + 2 * Config.halfBit s.line.cfg.lrate + k * (10 * (2 * Config.halfBit s.line.cfg.lrate)) +
      m * (2 * Config.halfBit s.line.cfg.lrate) ≤ t)
    (until' : t < x.begun + 2 * Config.halfBit s.line.cfg.lrate + k * (10 * (2 * Config.halfBit s.line.cfg.lrate)) +
      (m + 1) * (2 * Config.halfBit s.line.cfg.lrate)) :
    txdAt s t = charBit c m := by
  have place : (1 + 10 * k + m - 1) / 10 = k := by omega
  have bit : (1 + 10 * k + m - 1) % 10 = m := by omega
  have uncut : (x.contended && decide (x.compared < k)) = false := by
    cases cut : x.contended with
    | false => rfl
    | true => exact decide_eq_false (Nat.not_lt.2 (going cut))
  rw [txdAt_sending sending]
  rw [bitsBefore from' until', if_neg (by omega), place, bit, uncut, if_neg (by decide), char]

/-- Behind the last character TXD is high. -/
theorem txdAt_end {t : Nat}
    (late : x.begun + 2 * Config.halfBit s.line.cfg.lrate + x.chars.length * (10 * (2 * Config.halfBit s.line.cfg.lrate)) ≤ t) :
    txdAt s t = true := by
  have spent := List.getElem?_eq_none (bitsBefore_le (bitTime_pos _) late)
  rw [txdAt_sending sending]
  rw [spent, ite_self, ite_self]

/-- Behind a contended character TXD is high (R14). -/
theorem txdAt_contended {t : Nat} (cut : x.contended = true)
    (late : x.begun + 2 * Config.halfBit s.line.cfg.lrate + (x.compared + 1) * (10 * (2 * Config.halfBit s.line.cfg.lrate)) ≤ t) :
    txdAt s t = true := by
  have behind : x.compared < ((t - x.begun) / (2 * Config.halfBit s.line.cfg.lrate) - 1) / 10 := bitsBefore_le (bitTime_pos _) late
  rw [txdAt_sending sending]
  rw [cut, decide_eq_true behind, Bool.and_self, if_pos rfl, ite_self]

end

/-- Settles O43: the deadline by the engine state and the exchange kind, and TXD by the bit that a moment lies in. -/
theorem transmissionRule : Obligations.TransmissionRule := by
  unfold Obligations.TransmissionRule
  refine ⟨fun s q r live quiet record => ⟨fun state => next_act live (quietDeadline_settle quiet record state), fun state => ?_⟩,
    fun a kind tag p => ⟨_, frameChars_eq a kind tag p, rfl⟩, ⟨rfl, crcOf_append⟩,
    fun s time => ⟨fun silent => txdAt_silent silent time, fun x sending => ?_⟩⟩
  · have first := quietDeadline_first quiet record state
    refine ⟨fun i b poll => next_act live ?_, fun i b deliver => next_act live ?_, fun a probe => next_act live ?_,
      fun b all => next_act live ?_⟩
    · rw [poll] at first
      exact first
    · rw [deliver] at first
      exact first
    · rw [probe] at first
      exact first
    · rw [all] at first
      exact first
  · dsimp only
    refine ⟨fun early => txdAt_leadIn sending (by omega), fun k c char going => ⟨fun start stop => ?_, fun j short start stop => ?_,
      fun start stop => ?_⟩, txdAt_end sending, txdAt_contended sending⟩
    · exact txdAt_bit sending char going (m := 0) (by decide) (by omega) (by omega)
    · rw [txdAt_bit sending char going (m := j + 1) (by omega) start stop, charBit_data c short]
    · exact txdAt_bit sending char going (m := 9) (by decide) start (by linarith)

end Sys2Proof.Machine

/-! SUPPORT. The ring walk: the choice of a visit, the POLL and its deferral, the visit and the move, with the proof of their
statement. -/

namespace Sys2Proof.Machine

/-! ## The choice (R83) -/

section
variable {s : State} {i : EntryIx} (recovery : Bool)

theorem chooseFor_barren (none' : s.table[i].state = .empty ∨ s.table[i].state = .parked ∨ s.table[i].state = .retiring) :
    chooseFor recovery i s = .barren := by
  rcases none' with state | state | state <;> simp only [chooseFor, state]

theorem chooseFor_new (polled : s.table[i].state = .new ∨ s.table[i].state = .suspect) : chooseFor recovery i s = .poll := by
  rcases polled with state | state <;> simp only [chooseFor, state]

theorem chooseFor_lost (state : s.table[i].state = .lost) : chooseFor recovery i s = if recovery then .poll else .offRecovery := by
  simp only [chooseFor, state]

theorem chooseFor_online (state : s.table[i].state = .online) : chooseFor recovery i s =
    if s.table[i].backoff = 0 then (match headOf i s with | some b => .deliver b | none => .poll) else .poll := by
  simp only [chooseFor, state] <;> rfl

theorem chooseFor_online_poll (state : s.table[i].state = .online) (waits : 0 < s.table[i].backoff ∨ s.pool.outbound[i] = []) :
    chooseFor recovery i s = .poll := by
  rw [chooseFor_online recovery state]
  split
  · next rested =>
    have idle : headOf i s = none := by rw [headOf, waits.resolve_left (by omega), List.head?_nil]
    rw [idle]
  · rfl

theorem chooseFor_online_deliver {b : BufIx} {rest : List BufIx} (state : s.table[i].state = .online)
    (rested : s.table[i].backoff = 0) (list : s.pool.outbound[i] = b :: rest) : chooseFor recovery i s = .deliver b := by
  have head : headOf i s = some b := by rw [headOf, list, List.head?_cons]
  rw [chooseFor_online recovery state, if_pos rested, head]

end

/-! ## The POLL and its deferral (R78, R85, R86) -/

/-- The entry after the backoff step (R85). -/
def steppedEntry (i : EntryIx) (s : State) : Entry :=
  if lowersBackoff i s then { s.table[i] with backoff := s.table[i].backoff - 1 } else s.table[i]

theorem backoffStep_eq (i : EntryIx) (s : State) : backoffStep i s = { s with table := s.table.set i (steppedEntry i s) } := by
  unfold backoffStep steppedEntry
  split
  · rfl
  · have same : s.table.set i s.table[i] = s.table := Vector.set_getElem_self _
    rw [same]

theorem steppedEntry_address (i : EntryIx) (s : State) : (steppedEntry i s).address = s.table[i].address := by
  unfold steppedEntry
  split <;> rfl

theorem lowersBackoff_online {i : EntryIx} {s : State} (state : s.table[i].state = .online) :
    lowersBackoff i s = decide (0 < s.table[i].backoff) := by
  rw [lowersBackoff, state]
  rfl

theorem lowersBackoff_other {i : EntryIx} {s : State} (state : s.table[i].state ≠ .online) : lowersBackoff i s = false := by
  rw [lowersBackoff, beq_eq_false_iff_ne.2 state, Bool.false_and]

theorem steppedEntry_other {i : EntryIx} {s : State} (state : s.table[i].state ≠ .online) : steppedEntry i s = s.table[i] := by
  rw [steppedEntry, lowersBackoff_other state]
  rfl

/-- An ONLINE entry is stepped down by one, and not below 0. -/
theorem steppedEntry_online {i : EntryIx} {s : State} (state : s.table[i].state = .online) :
    steppedEntry i s = { s.table[i] with backoff := s.table[i].backoff - 1 } := by
  rw [steppedEntry, lowersBackoff_online state]
  split
  · rfl
  · next rested =>
    have zero : s.table[i].backoff = 0 := by simpa using rested
    have kept : s.table[i].backoff - 1 = s.table[i].backoff := by omega
    rw [kept]

section
variable {s : State} (i : EntryIx)

theorem tryPoll_free {b : BufIx} (free : s.pool.lowestFree = some b) :
    tryPoll i s = (true, startExchange (.poll i b) (reserve b s)) := by
  rw [tryPoll, free]

/-- What a POLL deferred for want of a buffer leaves: the latch set, and POOL_EXHAUSTED posted if it was clear (R86). -/
theorem tryPoll_deferred (short : s.pool.lowestFree = none) :
    tryPoll i s = (false, ({ s with sched := { s.sched with exhausted := true } }).posting
      (if s.sched.exhausted then [] else [entryEvent .poolExhausted i s.table[i].address 0#8 0])) := by
  rw [tryPoll, short]
  dsimp only
  rw [deferPoll]
  split
  · next latch =>
    rw [← latch]
    rfl
  · rfl

end

/-! ## The visit (R82 to R87) -/

section
variable {s : State} {i : EntryIx} (chosen : chooseFor (recoveryPass s) i s = .poll)
include chosen

theorem carryOut_free {b : BufIx} (free : s.pool.lowestFree = some b) :
    carryOut i s = (.started, startExchange (.poll i b) (reserve b { s with table := s.table.set i (steppedEntry i s) })) := by
  rw [carryOut, chosen]
  dsimp only
  rw [backoffStep_eq, tryPoll_free i (by exact free)]

theorem carryOut_deferred (short : s.pool.lowestFree = none) :
    carryOut i s = (if lowersBackoff i s then .loweredBackoff else .deferred,
      ({ s with
        table := s.table.set i (steppedEntry i s)
        sched := { s.sched with exhausted := true } }).posting
          (if s.sched.exhausted then [] else [entryEvent .poolExhausted i s.table[i].address 0#8 0])) := by
  rw [carryOut, chosen]
  dsimp only
  rw [backoffStep_eq, tryPoll_deferred i (by exact short)]
  dsimp only
  rw [table_set_same, steppedEntry_address]

end

/-- The state of a visit after the pace load of slot 0 (R82). -/
def paced (s : State) : State :=
  { s with sched := { s.sched with
    paceTimer := if s.sched.pointer = 0 then (if s.params.pace = 0 then none else some (s.now + s.params.pace * 73728))
      else s.sched.paceTimer } }

theorem paced_eq (s : State) : (if s.sched.pointer = 0 then { s with sched := { s.sched with
    paceTimer := if s.params.pace = 0 then none else some (s.now + s.params.pace * 73728) } } else s) = paced s := by
  unfold paced
  split <;> rfl

/-- The choice carried out for the entry of the slot, if it has one (R83). -/
def atSlot (s : State) : Fruit × State :=
  match s.sched.ring[s.sched.pointer] with
  | none => (.barren, s)
  | some i => carryOut i s

theorem visit_paced (s : State) : visit s = ((atSlot (paced s)).1, { (atSlot (paced s)).2 with
    sched := { (atSlot (paced s)).2.sched with run := (atSlot (paced s)).2.sched.run.after (atSlot (paced s)).1 } }) := by
  have load : (if s.sched.pointer = 0 then loadPace s else s) = paced s := paced_eq s
  have met : visited s = atSlot (paced s) := congrArg atSlot load
  rw [visit_eq, met]

theorem atSlot_paced (s : State) : atSlot (paced s) = match s.sched.ring[s.sched.pointer] with
    | none => (.barren, paced s)
    | some i => carryOut i (paced s) := rfl

theorem visit_nil {s : State} (slot : s.sched.ring[s.sched.pointer] = none) :
    visit s = (.barren, { paced s with sched := { (paced s).sched with
      run := { s.sched.run with count := s.sched.run.count + 1 } } }) := by
  rw [visit_paced, atSlot_paced, slot]
  rfl

section
variable {s : State} {i : EntryIx} (slot : s.sched.ring[s.sched.pointer] = some i)
include slot

theorem visit_entry : visit s = ((carryOut i (paced s)).1, { (carryOut i (paced s)).2 with
    sched := { (carryOut i (paced s)).2.sched with run := (carryOut i (paced s)).2.sched.run.after (carryOut i (paced s)).1 } }) := by
  rw [visit_paced, atSlot_paced, slot]

/-- The visit of a barren entry (R83, R87). -/
theorem visit_barren (chosen : chooseFor (recoveryPass s) i s = .barren) :
    visit s = (.barren, { paced s with sched := { (paced s).sched with
      run := { s.sched.run with count := s.sched.run.count + 1 } } }) := by
  have same : chooseFor (recoveryPass (paced s)) i (paced s) = .barren := chosen
  rw [visit_entry slot, carryOut, same]
  rfl

/-- The visit of a LOST entry outside a recovery pass (R84, R87). -/
theorem visit_offRecovery (chosen : chooseFor (recoveryPass s) i s = .offRecovery) :
    visit s = (.offRecovery, { paced s with sched := { (paced s).sched with
      run := { s.sched.run with count := s.sched.run.count + 1, live := true } } }) := by
  have same : chooseFor (recoveryPass (paced s)) i (paced s) = .offRecovery := chosen
  rw [visit_entry slot, carryOut, same]
  rfl

theorem visit_deliver {b : BufIx} (chosen : chooseFor (recoveryPass s) i s = .deliver b) :
    let begun := startExchange (.deliver i b) (paced s)
    visit s = (.started, { begun with sched := { begun.sched with run := {} } }) := by
  have same : chooseFor (recoveryPass (paced s)) i (paced s) = .deliver b := chosen
  rw [visit_entry slot, carryOut, same]
  rfl

/-- What the run is after a POLL deferred (R87). -/
def deferredRun (r : Run) (lowered : Bool) : Run := if lowered then {} else { r with count := r.count + 1, deferral := true }

omit slot in
theorem after_deferred (r : Run) (lowered : Bool) :
    r.after (if lowered then .loweredBackoff else .deferred) = deferredRun r lowered := by
  cases lowered <;> rfl

section
variable (chosen : chooseFor (recoveryPass s) i s = .poll)
include chosen

theorem visit_poll {b : BufIx} (free : s.pool.lowestFree = some b) :
    let begun := startExchange (.poll i b) (reserve b { paced s with table := s.table.set i (steppedEntry i s) })
    visit s = (.started, { begun with sched := { begun.sched with run := {} } }) := by
  have met : carryOut i (paced s) = _ := carryOut_free (by exact chosen) (by exact free)
  rw [visit_entry slot, met]
  rfl

theorem visit_deferred (short : s.pool.lowestFree = none) :
    let put := { paced s with
      table := s.table.set i (steppedEntry i s)
      sched := { (paced s).sched with exhausted := true, run := deferredRun s.sched.run (lowersBackoff i s) } }
    visit s = (if lowersBackoff i s then .loweredBackoff else .deferred,
      put.posting (if s.sched.exhausted then [] else [entryEvent .poolExhausted i s.table[i].address 0#8 0])) := by
  have met : carryOut i (paced s) = _ := carryOut_deferred (by exact chosen) (by exact short)
  rw [visit_entry slot, met]
  dsimp only
  rw [after_deferred, posting_eq, posting_eq]
  rfl

end

end

/-- The two ways of a visit that chose POLL, with the entry and the run that they leave (R78, R85, R86, R87). -/
theorem visit_polls {s : State} {i : EntryIx} {x : Entry} {lowered : Bool} (slot : s.sched.ring[s.sched.pointer] = some i)
    (chosen : chooseFor (recoveryPass s) i s = .poll) (entry : steppedEntry i s = x) (lowers : lowersBackoff i s = lowered) :
    let base := { paced s with table := s.table.set i x }
    let fruit : Fruit := if lowered then .loweredBackoff else .deferred
    let put := { base with sched := { base.sched with exhausted := true, run := deferredRun s.sched.run lowered } }
    (∀ b : BufIx, s.pool.lowestFree = some b → visit s = (.started,
      { startExchange (.poll i b) (reserve b base) with
        sched := { (startExchange (.poll i b) (reserve b base)).sched with run := {} } })) ∧
    (s.pool.lowestFree = none →
      (s.sched.exhausted = true → visit s = (fruit, put)) ∧
      (s.sched.exhausted = false →
        visit s = (fruit, put.posting [entryEvent .poolExhausted i s.table[i].address 0#8 0]))) := by
  subst entry lowers
  refine ⟨fun b free => visit_poll slot chosen free, fun short => ⟨fun latch => ?_, fun clear => ?_⟩⟩
  · rw [visit_deferred slot chosen short, latch]
    rfl
  · rw [visit_deferred slot chosen short, clear]
    rfl

/-! ## The moves of the walk (R80 to R82, R87) -/

/-- The state at a pass boundary (R80, R81). -/
def atBoundary (s : State) : State := passBoundary { s with sched := { s.sched with pointer := 0 } }

theorem nextSlot_next {p q : SlotIx} {n : Nat} (next' : q.val = p.val + 1) (within : q.val < n) : nextSlot p n = some q := by
  have last : p.val + 1 < 64 := next' ▸ q.isLt
  rw [nextSlot, dif_pos last, if_pos (next' ▸ within)]
  exact congrArg some (Fin.ext next'.symm)

theorem nextSlot_none {p : SlotIx} {n : Nat} (last : n ≤ p.val + 1 ∨ p.val = 63) : nextSlot p n = none := by
  unfold nextSlot
  split
  · exact if_neg (by omega)
  · rfl

theorem advanceSlot_next {s : State} {q : SlotIx} (next' : q.val = s.sched.pointer.val + 1) (within : q.val < s.params.ringLen) :
    advanceSlot s = (false, { s with sched := { s.sched with pointer := q } }) := by
  rw [advanceSlot, nextSlot_next next' within]

theorem advanceSlot_boundary {s : State} (last : s.params.ringLen ≤ s.sched.pointer.val + 1 ∨ s.sched.pointer.val = 63) :
    advanceSlot s = (true, atBoundary s) := by
  rw [advanceSlot, nextSlot_none last]
  rfl

section
variable {s : State} (long : s.params.ringLen ≤ s.sched.run.count)
include long

theorem endRun_deferral (deferral : s.sched.run.deferral = true) : endRun s = { s with sched := { s.sched with walk := .bufferWait } } := by
  rw [endRun, if_neg (Nat.not_lt.2 long), if_pos deferral]

theorem endRun_live (none' : s.sched.run.deferral = false) (live : s.sched.run.live = true) :
    endRun s = { s with sched := { s.sched with run := {} } } := by
  rw [endRun, if_neg (Nat.not_lt.2 long), if_neg (Bool.eq_false_iff.1 none'), if_pos live]

theorem endRun_dormant (none' : s.sched.run.deferral = false) (dead : s.sched.run.live = false) :
    endRun s = { s with sched := { s.sched with walk := .dormant, credit := true } } := by
  rw [endRun, if_neg (Nat.not_lt.2 long), if_neg (Bool.eq_false_iff.1 none'), if_neg (Bool.eq_false_iff.1 dead)]

end

/-- A pointer left at RINGLEN or above moves to slot 0 as a pass boundary (R80). -/
theorem walkMove_beyond {s : State} (beyond : s.params.ringLen ≤ s.sched.pointer.val) : walkMove s = returnToSweep (atBoundary s) :=
  if_pos beyond

section
variable {s : State} (within : s.sched.pointer.val < s.params.ringLen)
include within

/-- Slot 0 with the pace timer running is PACE_WAIT (R82). -/
theorem walkMove_waits (first : s.sched.pointer = 0) (timer : s.sched.paceTimer ≠ none) :
    walkMove s = (.again, { s with sched := { s.sched with walk := .paceWait } }) := by
  rw [walkMove, if_neg (Nat.not_le.2 within), if_pos ⟨first, Option.isSome_iff_ne_none.2 timer⟩]

variable (ready : s.sched.pointer ≠ 0 ∨ s.sched.paceTimer = none)
include ready

/-- A whole move: a visit, its advance and the end of the run (R81, R87). -/
theorem walkMove_visit :
    let moved := advanceSlot (visit s).2
    let checked := endRun moved.2
    walkMove s = if (visit s).1 = .started then (.started, moved.2)
      else if moved.1 || decide (checked.sched.walk = .dormant) then returnToSweep checked
      else (.again, checked) := by
  have unpaced : ¬(s.sched.pointer = 0 ∧ s.sched.paceTimer.isSome = true) := by
    rintro ⟨first, timer⟩
    rw [ready.resolve_left (· first)] at timer
    exact nomatch timer
  rw [walkMove, if_neg (Nat.not_le.2 within), if_neg unpaced]

theorem walkMove_started (started : (visit s).1 = .started) : walkMove s = (.started, (advanceSlot (visit s).2).2) :=
  (walkMove_visit within ready).trans (if_pos started)

variable (barren : (visit s).1 ≠ .started)
include barren

theorem walkMove_returns (returns : (advanceSlot (visit s).2).1 = true ∨ (endRun (advanceSlot (visit s).2).2).sched.walk = .dormant) :
    walkMove s = returnToSweep (endRun (advanceSlot (visit s).2).2) := by
  rw [walkMove_visit within ready, if_neg barren, if_pos]
  simpa using returns

theorem walkMove_again (inside : (advanceSlot (visit s).2).1 = false)
    (awake : (endRun (advanceSlot (visit s).2).2).sched.walk ≠ .dormant) :
    walkMove s = (.again, endRun (advanceSlot (visit s).2).2) := by
  rw [walkMove_visit within ready, if_neg barren, if_neg]
  simp [inside, awake]

end

theorem walk_walking {n : Nat} {s : State} (walking : s.sched.walk = .walking) :
    walk (n + 1) s = match walkMove s with
      | (.started, u) => u
      | (.again, u) => walk n u := if_pos walking

theorem recoveryPass_iff (s : State) : recoveryPass s = true ↔ s.sched.passCount.toNat % s.params.recover = 0 := by
  simp [recoveryPass]

/-- Settles O51: the choice and the visit by the entry's state, and a move by the slot, the visit and the end of the run. -/
theorem walkRule : Obligations.WalkRule := by
  unfold Obligations.WalkRule
  refine ⟨fun s i recovery => ⟨chooseFor_barren recovery, chooseFor_new recovery, chooseFor_lost recovery,
    chooseFor_online_poll recovery, fun b rest => chooseFor_online_deliver recovery⟩, fun s =>
    ⟨fun p => advanceSlot_next, advanceSlot_boundary, walkMove_beyond,
      fun first some' timer => walkMove_waits (by rw [first]; exact some') first timer,
      fun short => if_pos short, fun long => ⟨endRun_deferral long, endRun_live long, endRun_dormant long⟩,
      fun within ready => ⟨walkMove_started within ready, walkMove_returns within ready, walkMove_again within ready⟩,
      rfl, fun n => walk_walking, ?_⟩⟩
  dsimp only
  rw [paced_eq]
  refine ⟨visit_nil, fun i slot => ⟨fun none' => visit_barren slot (chooseFor_barren _ none'),
    fun lost off => visit_offRecovery slot ?_, fun state => ?_,
    fun online waits => visit_polls slot (chooseFor_online_poll _ online (.inl waits)) (steppedEntry_online online) ?_,
    fun online rested nothing => visit_polls slot (chooseFor_online_poll _ online (.inr nothing)) ?_ ?_,
    fun b rest online rested list => visit_deliver slot (chooseFor_online_deliver _ online rested list)⟩⟩
  · rw [chooseFor_lost _ lost, if_neg (mt (recoveryPass_iff s).1 off)]
  · have chosen : chooseFor (recoveryPass s) i s = .poll := by
      rcases state with new | suspect | ⟨lost, on⟩
      · exact chooseFor_new _ (.inl new)
      · exact chooseFor_new _ (.inr suspect)
      · rw [chooseFor_lost _ lost, if_pos ((recoveryPass_iff s).2 on)]
    have offline : s.table[i].state ≠ .online := by
      rcases state with state | state | ⟨state, _⟩ <;> exact ne_of_eq_of_ne state (by decide)
    exact visit_polls slot chosen (steppedEntry_other offline) (lowersBackoff_other offline)
  · rw [lowersBackoff_online online, decide_eq_true waits]
  · rw [steppedEntry, lowersBackoff_online online, rested]
    rfl
  · rw [lowersBackoff_online online, rested]
    rfl

end Sys2Proof.Machine

/-! SUPPORT. The look: its claims in their order, and the proof of its statement. -/

namespace Sys2Proof.Machine

/-! ## The sweep's claim (R90, R140) -/

/-- An address is held by an occupied entry. -/
def Held (s : State) (a : Nat) : Prop := ∃ j : EntryIx, s.table[j].state ≠ .empty ∧ s.table[j].address = a

/-- Past addresses that are all held the cursor comes to the end of the room it has. -/
theorem skipHeld_held {s : State} (n c : Nat) (held : ∀ a, c ≤ a → a < c + n → Held s a) : skipHeld s n c = c + n := by
  induction n generalizing c with
  | zero => rfl
  | succ n ih =>
    have here : (holderOf c s).isSome = true := (holderOf_isSome_iff c s).2 (held c (Nat.le_refl c) (by omega))
    rw [skipHeld, if_pos here, ih (c + 1) fun a low high => held a (by omega) (by omega)]
    omega

/-- Past held addresses the cursor comes to the first that is free. -/
theorem skipHeld_free {s : State} {c : Nat} (free : ¬Held s c) (n k : Nat) (held : ∀ a, k ≤ a → a < c → Held s a)
    (low : k ≤ c) (high : c ≤ k + n) : skipHeld s n k = c := by
  have ends : (holderOf c s).isSome = false := Bool.eq_false_iff.2 fun some' => free ((holderOf_isSome_iff c s).1 some')
  induction n generalizing k with
  | zero => exact Nat.le_antisymm low high
  | succ n ih =>
    by_cases there : k = c
    · rw [skipHeld, there, if_neg (Bool.eq_false_iff.1 ends)]
    · have here : (holderOf k s).isSome = true := (holderOf_isSome_iff k s).2 (held k (Nat.le_refl k) (by omega))
      rw [skipHeld, if_pos here]
      exact ih (k + 1) (fun a low' => held a (by omega)) (by omega) (by omega)

theorem sweepClaim_idle {s : State} (idle : s.sweep.state ≠ .active ∨ s.sched.credit = false) : sweepClaim s = (false, s) :=
  if_neg fun ⟨active, credit⟩ => idle.elim (· active) fun spent => Bool.noConfusion (spent.symm.trans credit)

section
variable {s : State} (active : s.sweep.state = .active) (credit : s.sched.credit = true)
include active credit

/-- With credit held the sweep probes the first address from its cursor that no entry holds (R90, R140). -/
theorem sweepClaim_probe {c : Nat} (free : ¬Held s c) (held : ∀ a, s.sweep.cursor ≤ a → a < c → Held s a)
    (low : s.sweep.cursor ≤ c) (high : c ≤ s.sweep.last) :
    sweepClaim s = (true, startExchange (.probe c) { s with
      sweep := { s.sweep with cursor := c, outstanding := true }
      sched := { s.sched with credit := decide (s.sched.walk = .dormant) } }) := by
  have skipped := skipHeld_free free (s.sweep.last - s.sweep.cursor) s.sweep.cursor held low (by omega)
  have ends : ¬(holderOf c s).isSome = true := fun some' => free ((holderOf_isSome_iff c s).1 some')
  rw [sweepClaim, if_pos ⟨active, credit⟩, sweepChoice, skipped]
  dsimp only
  rw [if_neg ends]
  rfl

/-- With every address to the last one held the sweep completes (R140). -/
theorem sweepClaim_complete (held : ∀ a, s.sweep.cursor ≤ a → a ≤ s.sweep.last → Held s a)
    (range : s.sweep.cursor ≤ s.sweep.last) : sweepClaim s = (false, ({ s with sweep := { s.sweep with state := .idle, cursor := s.sweep.last } }).posting
      [plainEvent .sweepDone 0 0#8 1]) := by
  have skipped := skipHeld_held (s.sweep.last - s.sweep.cursor) s.sweep.cursor fun a low high => held a low (by omega)
  have last : s.sweep.cursor + (s.sweep.last - s.sweep.cursor) = s.sweep.last := by omega
  have here : (holderOf s.sweep.last s).isSome = true := (holderOf_isSome_iff _ s).2 (held _ range (Nat.le_refl _))
  rw [sweepClaim, if_pos ⟨active, credit⟩, sweepChoice, skipped, last]
  dsimp only
  rw [if_pos here]
  rfl

end

/-! ## The urgent list (R93) -/

/-- What stands on the urgent list is read from the list alone. -/
theorem dropIneligible_withUrgent (u l : List EntryIx) (s : State) : dropIneligible l (withUrgent u s) = dropIneligible l s := by
  induction l generalizing s with
  | nil => rfl
  | cons i rest ih =>
    have same : ineligible i (withUrgent u s) = ineligible i s := rfl
    rw [dropIneligible, dropIneligible, same]
    by_cases out : ineligible i s = true
    · rw [if_pos out, if_pos out]
      by_cases empty : s.table[i].state = .empty
      · rw [if_pos (by exact empty), if_pos empty]
        exact ih s
      · rw [if_neg (by exact empty), if_neg empty]
        exact ih (modEntry i (fun e => { e with urgentListed := false }) s)
    · rw [if_neg out, if_neg out]
      rfl

theorem ineligible_iff (i : EntryIx) (s : State) : ineligible i s = true ↔
    s.table[i].state = .empty ∨ s.table[i].state = .parked ∨ s.table[i].state = .retiring := by
  unfold ineligible
  generalize s.table[i].state = state
  cases state <;> decide

section
variable {s : State} {i : EntryIx} {others : List EntryIx} (list : s.sched.urgent = i :: others)
include list

/-- An EMPTY head is passed over (R93). -/
theorem urgentClaim_empty (empty : s.table[i].state = .empty) : urgentClaim s = urgentClaim (withUrgent others s) := by
  have out : ineligible i s = true := (ineligible_iff i s).2 (.inl empty)
  have dropped : dropIneligible s.sched.urgent s = dropIneligible others (withUrgent others s) := by
    rw [dropIneligible_withUrgent, list, dropIneligible, if_pos out, if_pos empty]
  rw [urgentClaim, dropped]
  rfl

/-- A PARKED or RETIRING head leaves the list and its flag clears (R93). -/
theorem urgentClaim_ineligible (gone : s.table[i].state = .parked ∨ s.table[i].state = .retiring) :
    urgentClaim s = urgentClaim (withUrgent others (modEntry i (fun e => { e with urgentListed := false }) s)) := by
  have out : ineligible i s = true := (ineligible_iff i s).2 (.inr gone)
  have occupied : s.table[i].state ≠ .empty := by
    rcases gone with state | state <;> exact ne_of_eq_of_ne state (by decide)
  have dropped : dropIneligible s.sched.urgent s =
      dropIneligible others (withUrgent others (modEntry i (fun e => { e with urgentListed := false }) s)) := by
    rw [dropIneligible_withUrgent, list, dropIneligible, if_pos out, if_neg occupied]
  rw [urgentClaim, dropped]
  rfl

section
variable (eligible : ineligible i s = false)
include eligible

theorem dropIneligible_eligible : dropIneligible s.sched.urgent s = s := by
  rw [list, dropIneligible, if_neg (Bool.eq_false_iff.1 eligible), ← list]

theorem urgentClaim_deliver {b : BufIx} (chosen : chooseFor true i s = .deliver b) :
    urgentClaim s = (true, startExchange (.deliver i b) (servedHead i s)) := by
  rw [urgentClaim, dropIneligible_eligible list eligible]
  dsimp only
  rw [list]
  dsimp only
  rw [chosen]

/-- An eligible head for which POLL is chosen is served by it, or stays and is remembered as deferred (R93). -/
theorem urgentClaim_poll (chosen : chooseFor true i s = .poll) : urgentClaim s = match tryPoll i (backoffStep i s) with
    | (true, t) => (true, servedHead i t)
    | (false, t) => (false, { t with sched := { t.sched with urgentDeferred := some i } }) := by
  rw [urgentClaim, dropIneligible_eligible list eligible]
  dsimp only
  rw [list]
  dsimp only
  rw [chosen] <;> rfl

variable (chosen : chooseFor true i s = .poll)
include chosen

theorem urgentClaim_poll_free {b : BufIx} (free : s.pool.lowestFree = some b) : urgentClaim s =
    (true, servedHead i (startExchange (.poll i b) (reserve b { s with table := s.table.set i (steppedEntry i s) }))) := by
  rw [urgentClaim_poll list eligible chosen, backoffStep_eq, tryPoll_free i (by exact free)]

theorem urgentClaim_poll_deferred (short : s.pool.lowestFree = none) : urgentClaim s = (false, ({ s with
      table := s.table.set i (steppedEntry i s)
      sched := { s.sched with exhausted := true, urgentDeferred := some i } }).posting
        (if s.sched.exhausted then [] else [entryEvent .poolExhausted i s.table[i].address 0#8 0])) := by
  rw [urgentClaim_poll list eligible chosen, backoffStep_eq, tryPoll_deferred i (by exact short)]
  dsimp only
  rw [table_set_same, steppedEntry_address, posting_eq, posting_eq]

end

end

/-- The POLL of the served head: the start, with its leaving of the list (R49, R93). -/
theorem servedHead_poll (i : EntryIx) (b : BufIx) (s : State) :
    servedHead i (startExchange (.poll i b) s) = begun (.poll i b) { s with
      table := s.table.set i { s.table[i] with urgentListed := false, inFlight := true }
      sched := { s.sched with urgent := s.sched.urgent.tail } } := by
  have table := congrArg State.table
    (modEntry_modEntry i (fun e => { e with inFlight := true }) (fun e => { e with urgentListed := false }) s)
  dsimp only at table
  rw [← table]
  rfl

/-- The DELIVER of the served head: its leaving of the list, with the start (R49, R93, R105). -/
theorem servedHead_deliver (i : EntryIx) (b : BufIx) (s : State) :
    startExchange (.deliver i b) (servedHead i s) = begun (.deliver i b) { s with
      table := s.table.set i { s.table[i] with urgentListed := false, inFlight := true }
      pool := { s.pool with buffers := s.pool.buffers.set b { s.pool.buffers[b] with mark := .inFlight } }
      sched := { s.sched with urgent := s.sched.urgent.tail } } := by
  have table := congrArg State.table
    (modEntry_modEntry i (fun e => { e with urgentListed := false }) (fun e => { e with inFlight := true }) s)
  dsimp only at table
  rw [← table]
  rfl

/-! ## The look (R75, R76) -/

/-- The sweep's claim, and then the walk. -/
def passOn (s : State) : State :=
  match sweepClaim s with
  | (true, u) => u
  | (false, u) => walk Config.walkFuel u

theorem look_broadcast {s : State} {b : BufIx} {rest : List BufIx} (list : s.pool.broadcast = b :: rest) :
    look s = startExchange (.broadcast b) s := by
  rw [look, list]

theorem look_urgent {s : State} (none' : s.pool.broadcast = []) : look s = match urgentClaim s with
    | (true, t) => t
    | (false, t) => passOn t := by
  rw [look, none'] <;> rfl

/-- The state a look starts from: the arrival taken, and no head remembered as deferred (R75). -/
def readied (s : State) : State := { s with sched := { s.sched with lookDue := false, urgentDeferred := none } }

theorem finish_forgets {s : State} (due : s.sched.lookDue = true) (busy : s.engine.state ≠ .idle ∨ s.line.state ≠ .running) :
    finish s = { s with sched := { s.sched with lookDue := false } } := by
  have may : mayLook s = false := by
    rcases busy with engine | line
    · rw [mayLook, beq_eq_false_iff_ne.2 engine, Bool.false_and]
    · rw [mayLook, beq_eq_false_iff_ne.2 line, Bool.and_false]
  rw [finish, if_pos due, may]
  rfl

/-- The scheduler looks at the end of the step (log 4). -/
def LooksNow (s : State) : Prop := s.sched.lookDue = true ∧ s.engine.state = .idle ∧ s.line.state = .running

theorem finish_looks {s : State} (h : LooksNow s) : finish s = look (readied s) := by
  obtain ⟨due, engine, line⟩ := h
  have may : mayLook s = true := by rw [mayLook, engine, line]; rfl
  rw [finish, if_pos due, may]
  rfl

section
variable {s : State} (now : LooksNow s) (none' : s.pool.broadcast = [])
include now none'

theorem finish_urgent : finish s = match urgentClaim (readied s) with
    | (true, t) => t
    | (false, t) => passOn t := by
  rw [finish_looks now, look_urgent (by exact none')]

theorem finish_noUrgent (empty : s.sched.urgent = []) : finish s = passOn (readied s) := by
  have claimed : urgentClaim (readied s) = (false, readied s) := by
    have same : (readied s).sched.urgent = [] := empty
    have dropped : dropIneligible (readied s).sched.urgent (readied s) = readied s := by rw [same, dropIneligible, ← same]
    rw [urgentClaim, dropped]
    dsimp only
    rw [same]
  rw [finish_urgent now none', claimed]

/-- A step that leaves another state for the look, with the same claim behind it, ends alike. -/
theorem finish_urgent_eq {t : State} (then' : LooksNow t) (none'' : t.pool.broadcast = [])
    (same : urgentClaim (readied s) = urgentClaim (readied t)) : finish s = finish t := by
  rw [finish_urgent now none', finish_urgent then' none'', same]

section
variable {i : EntryIx} {others : List EntryIx} (list : s.sched.urgent = i :: others) (eligible : ineligible i s = false)
include list eligible

/-- The POLL of the urgent head, or its deferral, by the free buffers (R78, R86, R93). -/
theorem finish_polls {x : Entry} (chosen : chooseFor true i s = .poll) (entry : steppedEntry i s = x) :
    let ask : Quiet := {
      quietAt := s.now + s.line.cfg.lsettle * (20 * Config.halfBit s.line.cfg.lrate)
      babbleAt := s.now + 64 * (20 * Config.halfBit s.line.cfg.lrate) }
    let deferred := { readied s with
      table := s.table.set i x
      sched := { (readied s).sched with exhausted := true, urgentDeferred := some i } }
    (∀ b : BufIx, s.pool.lowestFree = some b → finish s = { readied s with
      engine := { s.engine with state := .settleWait, record := some { exch := .poll i b } }
      line := { s.line with quiet := some ask }
      table := s.table.set i { x with urgentListed := false, inFlight := true }
      pool := { s.pool with
        reserved := some b
        buffers := s.pool.buffers.set b { s.pool.buffers[b] with payload := [] } }
      sched := { (readied s).sched with urgent := others, exhausted := false } }) ∧
    (s.pool.lowestFree = none →
      (s.sched.exhausted = true → finish s = passOn deferred) ∧
      (s.sched.exhausted = false →
        finish s = passOn (deferred.posting [entryEvent .poolExhausted i s.table[i].address 0#8 0]))) := by
  subst entry
  have claimed := finish_urgent now none'
  refine ⟨fun b free => ?_, fun short => ⟨fun latch => ?_, fun clear => ?_⟩⟩
  · rw [urgentClaim_poll_free (by exact list) (by exact eligible) (by exact chosen) (by exact free)] at claimed
    have tail : s.sched.urgent.tail = others := by rw [list, List.tail_cons]
    have edit := congrArg State.table (modEntry_modEntry i (fun _ => steppedEntry i s)
      (fun e => { e with urgentListed := false, inFlight := true }) s)
    dsimp only at edit
    rw [claimed, servedHead_poll, ← edit, ← tail]
    rfl
  · rw [urgentClaim_poll_deferred (by exact list) (by exact eligible) (by exact chosen) (by exact short)] at claimed
    have set : (readied s).sched.exhausted = true := latch
    rw [set] at claimed
    exact claimed
  · rw [urgentClaim_poll_deferred (by exact list) (by exact eligible) (by exact chosen) (by exact short)] at claimed
    have unset : (readied s).sched.exhausted = false := clear
    rw [unset] at claimed
    exact claimed

theorem finish_delivers {b : BufIx} (chosen : chooseFor true i s = .deliver b) :
    finish s = startExchange (.deliver i b) (servedHead i (readied s)) := by
  have claimed := finish_urgent now none'
  rw [urgentClaim_deliver (by exact list) (by exact eligible) (by exact chosen)] at claimed
  exact claimed

end

end

/-- Settles O50: by the claims in their order, the state of the urgent head, and the addresses held for the sweep. -/
theorem lookRule : Obligations.LookRule := by
  unfold Obligations.LookRule
  intro s
  refine ⟨finish_settled, finish_forgets, fun due engine line => ?_, sweepClaim_idle, fun active credit range =>
    ⟨fun c low high held free => sweepClaim_probe active credit free held low high,
      fun held => sweepClaim_complete active credit held range⟩, fun still n => ?_⟩
  · have now : LooksNow s := ⟨due, engine, line⟩
    refine ⟨fun b rest list => ?_, fun none' => ⟨finish_noUrgent now none', fun i others list => ?_⟩⟩
    · rw [finish_looks now, look_broadcast (by exact list)]
      rfl
    · have stays (state : s.table[i].state ≠ .empty ∧ s.table[i].state ≠ .parked ∧ s.table[i].state ≠ .retiring) :
          ineligible i s = false := Bool.eq_false_iff.2 fun out => by
        obtain ⟨occupied, unparked, staying⟩ := state
        rcases (ineligible_iff i s).1 out with empty | parked | retiring
        · exact occupied empty
        · exact unparked parked
        · exact staying retiring
      refine ⟨fun empty => ?_, fun gone => ?_, fun state => ?_, fun online waits => ?_, fun b rest online rested head => ?_⟩
      · exact finish_urgent_eq now none' now none' (urgentClaim_empty (by exact list) empty)
      · exact finish_urgent_eq now none' now none' (urgentClaim_ineligible (by exact list) gone)
      · have chosen : chooseFor true i s = .poll := by
          rcases state with new | suspect | lost
          · exact chooseFor_new _ (.inl new)
          · exact chooseFor_new _ (.inr suspect)
          · exact chooseFor_lost _ lost
        have offline : s.table[i].state ≠ .online := by
          rcases state with state | state | state <;> exact ne_of_eq_of_ne state (by decide)
        have eligible : ineligible i s = false := by
          refine stays ?_
          rcases state with state | state | state <;> rw [state] <;> decide
        exact finish_polls now none' list eligible chosen (steppedEntry_other offline)
      · have eligible : ineligible i s = false := stays (by rw [online]; decide)
        exact finish_polls now none' list eligible (chooseFor_online_poll _ online waits) (steppedEntry_online online)
      · have eligible : ineligible i s = false := stays (by rw [online]; decide)
        have tail : s.sched.urgent.tail = others := by rw [list, List.tail_cons]
        rw [finish_delivers now none' list eligible (chooseFor_online_deliver _ online rested head), servedHead_deliver, ← tail]
        rfl
  · cases n with
    | zero => rfl
    | succ n => exact if_neg still

end Sys2Proof.Machine
